-- ==== Sys2Proof/Word.lean ====
section
/-!
DEFINITION. The word types of the vector unit (00_scope.md section 4; 10_state.md R20, R24; 20_memory.md R50).
-/

namespace Sys2Proof

/-- A memory or register byte. -/
abbrev Byte := BitVec 8

/-- One lane: "a 16-bit two's-complement integer" (R13, R20). -/
abbrev Lane := BitVec 16

/-- A 32-bit word: a command word, a scalar operand or result, a byte address (R50, R70, R71). -/
abbrev Word := BitVec 32

/-- One lane of the accumulator (R24). -/
abbrev AccLane := BitVec 48

/-- A lane number 0..7 (R21). -/
abbrev LaneIx := Fin 8

/-- A vector register: lane 0 first (R20, R21). -/
abbrev VReg := Vector Lane 8

/-- The accumulator: one 48-bit value per lane (R24). -/
abbrev AccReg := Vector AccLane 8

end Sys2Proof
end

