-- ==== Sys2Proof/Syntax.lean ====
section
/-!
DEFINITION. The instructions: one constructor per row of spec/opcode_table.json, over the operand shapes of the three
formats (30_encoding.md R72 to R74). Bits the spec calls ignored are no operands (U12); the scalar register numbers
`base` and `rt` are operands of the word that the block does not interpret (R71).
-/

namespace Sys2Proof

/-- Format V, three registers and an element code (R72). -/
structure V3 where
  vd : Fin 32
  vs : Fin 32
  vt : Fin 32
  e  : Fin 16
  deriving DecidableEq, Repr

/-- Format V, single lane: the `vs` field carries the destination lane `de` (R72, R214). -/
structure V1 where
  vd : Fin 32
  de : Fin 8
  vt : Fin 32
  e  : Fin 16
  deriving DecidableEq, Repr

/-- Format V of VSAR: destination and plane selector; `vs` and `vt` are ignored (R204). -/
structure VPlane where
  vd : Fin 32
  e  : Fin 16
  deriving DecidableEq, Repr

/-- Format LS: `offset` is the signed 7-bit field, sign-extended (R73, R75); `e` is a byte index (R120). -/
structure LS where
  base   : Fin 32
  vt     : Fin 32
  e      : Fin 16
  offset : Int
  deriving DecidableEq, Repr

/-- Format M of MFC2 and MTC2: vector register `rd`, byte index `e` (R74). -/
structure MV where
  rt : Fin 32
  rd : Fin 32
  e  : Fin 16
  deriving DecidableEq, Repr

/-- Format M of CFC2 and CTC2: flag number `c = rd & 3` (R74, R232). -/
structure MC where
  rt : Fin 32
  c  : Fin 4
  deriving DecidableEq, Repr

/-- The 61 instructions (R9, R76 to R78), in the table's order. -/
inductive Instr where
  | vmulf (o : V3)
  | vmulu (o : V3)
  | vmudl (o : V3)
  | vmudm (o : V3)
  | vmudn (o : V3)
  | vmudh (o : V3)
  | vmacf (o : V3)
  | vmacu (o : V3)
  | vmadl (o : V3)
  | vmadm (o : V3)
  | vmadn (o : V3)
  | vmadh (o : V3)
  | vadd (o : V3)
  | vsub (o : V3)
  | vabs (o : V3)
  | vaddc (o : V3)
  | vsubc (o : V3)
  | vsar (o : VPlane)
  | vlt (o : V3)
  | veq (o : V3)
  | vne (o : V3)
  | vge (o : V3)
  | vcl (o : V3)
  | vch (o : V3)
  | vcr (o : V3)
  | vmrg (o : V3)
  | vand (o : V3)
  | vnand (o : V3)
  | vor (o : V3)
  | vnor (o : V3)
  | vxor (o : V3)
  | vnxor (o : V3)
  | vrcp (o : V1)
  | vrcpl (o : V1)
  | vrcph (o : V1)
  | vmov (o : V1)
  | vrsq (o : V1)
  | vrsql (o : V1)
  | vrsqh (o : V1)
  | vnop
  | vnull
  | lbv (o : LS)
  | lsv (o : LS)
  | llv (o : LS)
  | ldv (o : LS)
  | lqv (o : LS)
  | lrv (o : LS)
  | lpv (o : LS)
  | luv (o : LS)
  | sbv (o : LS)
  | ssv (o : LS)
  | slv (o : LS)
  | sdv (o : LS)
  | sqv (o : LS)
  | srv (o : LS)
  | spv (o : LS)
  | suv (o : LS)
  | mfc2 (o : MV)
  | cfc2 (o : MC)
  | mtc2 (o : MV)
  | ctc2 (o : MC)
  deriving DecidableEq, Repr

/-- Why a command word spells no instruction (R86). -/
inductive Undecodable where
  /-- `op` is not 0x12, 0x32 or 0x3A. -/
  | badOp
  /-- Format V with a `funct` outside R76. -/
  | badFunct
  /-- Format LS with a `sub` outside R77. -/
  | badSub
  /-- Format M with a `sel` outside R78. -/
  | badSel
  deriving DecidableEq, Repr

end Sys2Proof
end

