-- ==== Sys2Proof/WellFormed.lean ====
section
/-!
DEFINITION. What is well formed beyond what the types already say: the load and store offset is a signed 7-bit number
(R73, R75).
Register numbers, lanes and element codes are well formed by their types: "no field value is reserved" (R86).
-/

namespace Sys2Proof

/-- The offset fits the signed 7-bit field: "-64..63" (R75, R90). -/
def LS.wf (o : LS) : Bool := decide (-64 ≤ o.offset ∧ o.offset ≤ 63)

/-- An instruction its format can spell (R72 to R75). -/
def Instr.wf : Instr → Bool
  | .lbv o | .lsv o | .llv o | .ldv o | .lqv o | .lrv o | .lpv o | .luv o
  | .sbv o | .ssv o | .slv o | .sdv o | .sqv o | .srv o | .spv o | .suv o => o.wf
  | .vmulf _ | .vmulu _ | .vmudl _ | .vmudm _ | .vmudn _ | .vmudh _
  | .vmacf _ | .vmacu _ | .vmadl _ | .vmadm _ | .vmadn _ | .vmadh _
  | .vadd _ | .vsub _ | .vabs _ | .vaddc _ | .vsubc _ | .vsar _
  | .vlt _ | .veq _ | .vne _ | .vge _ | .vcl _ | .vch _ | .vcr _ | .vmrg _
  | .vand _ | .vnand _ | .vor _ | .vnor _ | .vxor _ | .vnxor _
  | .vrcp _ | .vrcpl _ | .vrcph _ | .vmov _ | .vrsq _ | .vrsql _ | .vrsqh _
  | .vnop | .vnull | .mfc2 _ | .cfc2 _ | .mtc2 _ | .ctc2 _ => true

end Sys2Proof
end

