-- ==== Sys2Proof/Decode.lean ====
section
/-!
DEFINITION. The command word: decoding (30_encoding.md R70, R72 to R79, R86) and, after it, encoding from the same
tables. Decoding is total on 32-bit words and says why it rejects one. A word is a number, not a byte sequence (R55), so
its bits are numbered as spec/opcode_table.json numbers them.
-/

namespace Sys2Proof

/-- Bits `lo + n - 1 .. lo` of a command word, as a number. -/
def field (w : Word) (lo n : Nat) : Nat := w.toNat / 2 ^ lo % 2 ^ n

/-- The five-bit register number at bit `lo`. -/
def regField (w : Word) (lo : Nat) : Fin 32 := Fin.ofNat 32 (field w lo 5)

/-- The four-bit element field at bit `lo`. -/
def elemField (w : Word) (lo : Nat) : Fin 16 := Fin.ofNat 16 (field w lo 4)

/-- The seven-bit offset field, sign-extended (R75). -/
def offsetField (w : Word) : Int :=
  if field w 0 7 < 64 then (field w 0 7 : Int) else (field w 0 7 : Int) - 128

/-- The operands of a three-register word (R72). -/
def V3.ofWord (w : Word) : V3 := ⟨regField w 6, regField w 11, regField w 16, elemField w 21⟩

/-- The operands of a single-lane word: bits 15:14 are ignored (R72, R214). -/
def V1.ofWord (w : Word) : V1 := ⟨regField w 6, Fin.ofNat 8 (field w 11 3), regField w 16, elemField w 21⟩

/-- The operands of VSAR: `vs` and `vt` are ignored (R204). -/
def VPlane.ofWord (w : Word) : VPlane := ⟨regField w 6, elemField w 21⟩

/-- The operands of a load or store (R73). -/
def LS.ofWord (w : Word) : LS := ⟨regField w 21, regField w 16, elemField w 7, offsetField w⟩

/-- The operands of MFC2 and MTC2: bits 6:0 are ignored (R74). -/
def MV.ofWord (w : Word) : MV := ⟨regField w 16, regField w 11, elemField w 7⟩

/-- The operands of CFC2 and CTC2: of `rd` only bits 12:11 count, `e` is ignored (R74, R232). -/
def MC.ofWord (w : Word) : MC := ⟨regField w 16, Fin.ofNat 4 (field w 11 2)⟩

/-- Format V by its function code (R76). -/
def decodeV (w : Word) : Except Undecodable Instr :=
  match field w 0 6 with
  | 0x00 => .ok (.vmulf (V3.ofWord w))
  | 0x01 => .ok (.vmulu (V3.ofWord w))
  | 0x04 => .ok (.vmudl (V3.ofWord w))
  | 0x05 => .ok (.vmudm (V3.ofWord w))
  | 0x06 => .ok (.vmudn (V3.ofWord w))
  | 0x07 => .ok (.vmudh (V3.ofWord w))
  | 0x08 => .ok (.vmacf (V3.ofWord w))
  | 0x09 => .ok (.vmacu (V3.ofWord w))
  | 0x0C => .ok (.vmadl (V3.ofWord w))
  | 0x0D => .ok (.vmadm (V3.ofWord w))
  | 0x0E => .ok (.vmadn (V3.ofWord w))
  | 0x0F => .ok (.vmadh (V3.ofWord w))
  | 0x10 => .ok (.vadd (V3.ofWord w))
  | 0x11 => .ok (.vsub (V3.ofWord w))
  | 0x13 => .ok (.vabs (V3.ofWord w))
  | 0x14 => .ok (.vaddc (V3.ofWord w))
  | 0x15 => .ok (.vsubc (V3.ofWord w))
  | 0x1D => .ok (.vsar (VPlane.ofWord w))
  | 0x20 => .ok (.vlt (V3.ofWord w))
  | 0x21 => .ok (.veq (V3.ofWord w))
  | 0x22 => .ok (.vne (V3.ofWord w))
  | 0x23 => .ok (.vge (V3.ofWord w))
  | 0x24 => .ok (.vcl (V3.ofWord w))
  | 0x25 => .ok (.vch (V3.ofWord w))
  | 0x26 => .ok (.vcr (V3.ofWord w))
  | 0x27 => .ok (.vmrg (V3.ofWord w))
  | 0x28 => .ok (.vand (V3.ofWord w))
  | 0x29 => .ok (.vnand (V3.ofWord w))
  | 0x2A => .ok (.vor (V3.ofWord w))
  | 0x2B => .ok (.vnor (V3.ofWord w))
  | 0x2C => .ok (.vxor (V3.ofWord w))
  | 0x2D => .ok (.vnxor (V3.ofWord w))
  | 0x30 => .ok (.vrcp (V1.ofWord w))
  | 0x31 => .ok (.vrcpl (V1.ofWord w))
  | 0x32 => .ok (.vrcph (V1.ofWord w))
  | 0x33 => .ok (.vmov (V1.ofWord w))
  | 0x34 => .ok (.vrsq (V1.ofWord w))
  | 0x35 => .ok (.vrsql (V1.ofWord w))
  | 0x36 => .ok (.vrsqh (V1.ofWord w))
  | 0x37 => .ok .vnop
  | 0x3F => .ok .vnull
  | _ => .error .badFunct

/-- Format LS, loads, by the access kind (R77). -/
def decodeLoad (w : Word) : Except Undecodable Instr :=
  match field w 11 5 with
  | 0 => .ok (.lbv (LS.ofWord w))
  | 1 => .ok (.lsv (LS.ofWord w))
  | 2 => .ok (.llv (LS.ofWord w))
  | 3 => .ok (.ldv (LS.ofWord w))
  | 4 => .ok (.lqv (LS.ofWord w))
  | 5 => .ok (.lrv (LS.ofWord w))
  | 6 => .ok (.lpv (LS.ofWord w))
  | 7 => .ok (.luv (LS.ofWord w))
  | _ => .error .badSub

/-- Format LS, stores, by the access kind (R77). -/
def decodeStore (w : Word) : Except Undecodable Instr :=
  match field w 11 5 with
  | 0 => .ok (.sbv (LS.ofWord w))
  | 1 => .ok (.ssv (LS.ofWord w))
  | 2 => .ok (.slv (LS.ofWord w))
  | 3 => .ok (.sdv (LS.ofWord w))
  | 4 => .ok (.sqv (LS.ofWord w))
  | 5 => .ok (.srv (LS.ofWord w))
  | 6 => .ok (.spv (LS.ofWord w))
  | 7 => .ok (.suv (LS.ofWord w))
  | _ => .error .badSub

/-- Format M by its selector (R78). -/
def decodeM (w : Word) : Except Undecodable Instr :=
  match field w 21 5 with
  | 0x00 => .ok (.mfc2 (MV.ofWord w))
  | 0x02 => .ok (.cfc2 (MC.ofWord w))
  | 0x04 => .ok (.mtc2 (MV.ofWord w))
  | 0x06 => .ok (.ctc2 (MC.ofWord w))
  | _ => .error .badSel

/-- The decoding order of R79. -/
def decode (w : Word) : Except Undecodable Instr :=
  match field w 26 6 with
  | 0x12 => if field w 25 1 = 1 then decodeV w else decodeM w
  | 0x32 => decodeLoad w
  | 0x3A => decodeStore w
  | _ => .error .badOp

/-- The instruction the decoder reads from the table's `nbits` low bits of a word, the bits above them zero. -/
def decodeTableWord (nbits w : Nat) : Option Instr :=
  match decode (BitVec.ofNat 32 (w % 2 ^ nbits)) with
  | .ok i => some i
  | .error _ => none

/-- Three-register word (R72): the fields do not overlap, so adding them is the spec's `|`. -/
def encodeV3 (funct : Nat) (o : V3) : Word :=
  BitVec.ofNat 32 (0x4A000000 + o.e.val * 2 ^ 21 + o.vt.val * 2 ^ 16 + o.vs.val * 2 ^ 11 + o.vd.val * 2 ^ 6 + funct)

/-- Single-lane word (R72): `de` in bits 13:11, bits 15:14 zero (R90). -/
def encodeV1 (funct : Nat) (o : V1) : Word :=
  BitVec.ofNat 32 (0x4A000000 + o.e.val * 2 ^ 21 + o.vt.val * 2 ^ 16 + o.de.val * 2 ^ 11 + o.vd.val * 2 ^ 6 + funct)

/-- VSAR word: the ignored fields zero (R204). -/
def encodeVPlane (funct : Nat) (o : VPlane) : Word :=
  BitVec.ofNat 32 (0x4A000000 + o.e.val * 2 ^ 21 + o.vd.val * 2 ^ 6 + funct)

/-- VNOP and VNULL: "all fields zero" (R90). -/
def encodeV0 (funct : Nat) : Word := BitVec.ofNat 32 (0x4A000000 + funct)

/-- Load or store word (R73): `opword` is 0xC8000000 or 0xE8000000, the offset its low seven bits. -/
def encodeLS (opword sub : Nat) (o : LS) : Word :=
  BitVec.ofNat 32 (opword + o.base.val * 2 ^ 21 + o.vt.val * 2 ^ 16 + sub * 2 ^ 11 + o.e.val * 2 ^ 7
    + (o.offset % 128).toNat)

/-- MFC2 and MTC2 word (R74). -/
def encodeMV (sel : Nat) (o : MV) : Word :=
  BitVec.ofNat 32 (0x48000000 + sel * 2 ^ 21 + o.rt.val * 2 ^ 16 + o.rd.val * 2 ^ 11 + o.e.val * 2 ^ 7)

/-- CFC2 and CTC2 word (R74, R232). -/
def encodeMC (sel : Nat) (o : MC) : Word :=
  BitVec.ofNat 32 (0x48000000 + sel * 2 ^ 21 + o.rt.val * 2 ^ 16 + o.c.val * 2 ^ 11)

/-- The command word of an instruction, ignored bits zero (R72 to R78, R90). -/
def encode : Instr → Word
  | .vmulf o => encodeV3 0x00 o
  | .vmulu o => encodeV3 0x01 o
  | .vmudl o => encodeV3 0x04 o
  | .vmudm o => encodeV3 0x05 o
  | .vmudn o => encodeV3 0x06 o
  | .vmudh o => encodeV3 0x07 o
  | .vmacf o => encodeV3 0x08 o
  | .vmacu o => encodeV3 0x09 o
  | .vmadl o => encodeV3 0x0C o
  | .vmadm o => encodeV3 0x0D o
  | .vmadn o => encodeV3 0x0E o
  | .vmadh o => encodeV3 0x0F o
  | .vadd o => encodeV3 0x10 o
  | .vsub o => encodeV3 0x11 o
  | .vabs o => encodeV3 0x13 o
  | .vaddc o => encodeV3 0x14 o
  | .vsubc o => encodeV3 0x15 o
  | .vsar o => encodeVPlane 0x1D o
  | .vlt o => encodeV3 0x20 o
  | .veq o => encodeV3 0x21 o
  | .vne o => encodeV3 0x22 o
  | .vge o => encodeV3 0x23 o
  | .vcl o => encodeV3 0x24 o
  | .vch o => encodeV3 0x25 o
  | .vcr o => encodeV3 0x26 o
  | .vmrg o => encodeV3 0x27 o
  | .vand o => encodeV3 0x28 o
  | .vnand o => encodeV3 0x29 o
  | .vor o => encodeV3 0x2A o
  | .vnor o => encodeV3 0x2B o
  | .vxor o => encodeV3 0x2C o
  | .vnxor o => encodeV3 0x2D o
  | .vrcp o => encodeV1 0x30 o
  | .vrcpl o => encodeV1 0x31 o
  | .vrcph o => encodeV1 0x32 o
  | .vmov o => encodeV1 0x33 o
  | .vrsq o => encodeV1 0x34 o
  | .vrsql o => encodeV1 0x35 o
  | .vrsqh o => encodeV1 0x36 o
  | .vnop => encodeV0 0x37
  | .vnull => encodeV0 0x3F
  | .lbv o => encodeLS 0xC8000000 0 o
  | .lsv o => encodeLS 0xC8000000 1 o
  | .llv o => encodeLS 0xC8000000 2 o
  | .ldv o => encodeLS 0xC8000000 3 o
  | .lqv o => encodeLS 0xC8000000 4 o
  | .lrv o => encodeLS 0xC8000000 5 o
  | .lpv o => encodeLS 0xC8000000 6 o
  | .luv o => encodeLS 0xC8000000 7 o
  | .sbv o => encodeLS 0xE8000000 0 o
  | .ssv o => encodeLS 0xE8000000 1 o
  | .slv o => encodeLS 0xE8000000 2 o
  | .sdv o => encodeLS 0xE8000000 3 o
  | .sqv o => encodeLS 0xE8000000 4 o
  | .srv o => encodeLS 0xE8000000 5 o
  | .spv o => encodeLS 0xE8000000 6 o
  | .suv o => encodeLS 0xE8000000 7 o
  | .mfc2 o => encodeMV 0x00 o
  | .cfc2 o => encodeMC 0x02 o
  | .mtc2 o => encodeMV 0x04 o
  | .ctc2 o => encodeMC 0x06 o

/-- A row of the opcode table: a word is of the row when its `mask` bits are `pattern`. -/
structure OpcodeRow where
  pattern : Word
  mask    : Word
  deriving DecidableEq, Repr

/-- The `match` and `mask` of format V (R76). -/
def rowV (funct : Nat) : OpcodeRow := ⟨BitVec.ofNat 32 (0x4A000000 + funct), 0xFE00003F#32⟩

/-- The `match` and `mask` of format LS (R77). -/
def rowLS (opword sub : Nat) : OpcodeRow := ⟨BitVec.ofNat 32 (opword + sub * 2 ^ 11), 0xFC00F800#32⟩

/-- The `match` and `mask` of format M (R78). -/
def rowM (pattern : Nat) : OpcodeRow := ⟨BitVec.ofNat 32 pattern, 0xFFE00000#32⟩

/-- The 61 rows of the opcode table (R76 to R78). -/
def opcodeRows : List OpcodeRow :=
  [0x00, 0x01, 0x04, 0x05, 0x06, 0x07, 0x08, 0x09, 0x0C, 0x0D, 0x0E, 0x0F, 0x10, 0x11, 0x13, 0x14, 0x15, 0x1D, 0x20, 0x21, 0x22,
   0x23, 0x24, 0x25, 0x26, 0x27, 0x28, 0x29, 0x2A, 0x2B, 0x2C, 0x2D, 0x30, 0x31, 0x32, 0x33, 0x34, 0x35, 0x36, 0x37, 0x3F].map rowV
  ++ [0, 1, 2, 3, 4, 5, 6, 7].map (rowLS 0xC8000000) ++ [0, 1, 2, 3, 4, 5, 6, 7].map (rowLS 0xE8000000)
  ++ [0x48000000, 0x48400000, 0x48800000, 0x48C00000].map rowM

end Sys2Proof
end

