-- ==== Sys2Proof/Config.lean ====
section
/-!
DEFINITION. The parameters of the model (00_scope.md R11, R18): what an implementation fixes and the spec leaves as a
parameter, and the one open value. Every parameter is plain data in one record, which a state carries and no step
changes, so a statement about every state is a statement about every configuration (log 6).
-/

namespace Sys2Proof

/-- The byte addresses `lo ≤ a < hi`. -/
structure AddrRange where
  lo : Nat
  hi : Nat
  deriving DecidableEq, Repr

/-- The two kinds of bus transaction (R51). -/
inductive Access where
  | read
  | write
  deriving DecidableEq, Repr

/-- The bus's answer to one transaction, set down by itself: to exactly these addresses in exactly this order the bus
answers `fault(a)` for `some a`, and accepts for `none` (R51, U4). -/
structure BusAnswer where
  access : Access
  addrs  : List Word
  fault  : Option Word
  deriving DecidableEq, Repr

/-- `BUS` (R18, R51 to R53, U4), "a partial function from (byte address list) to bytes or fault, and the same for writes", as
plain data: any such function can be written so (`Machine.exists_bus` of Laws/Bus.lean; log 8). -/
structure Bus where
  /-- The memory's size in bytes: an address names the byte at its value mod `size`. -/
  size : Nat
  /-- The addresses that name another byte: an address and its byte. -/
  places : List (Word × Nat)
  /-- Addresses that fault when a transaction reads them; the lowest of a transaction is the one reported. -/
  readRefused : List AddrRange
  /-- Addresses that fault when a transaction writes them; the lowest of a transaction is the one reported. -/
  writeRefused : List AddrRange
  /-- The transactions that the bus answers otherwise than its refused ranges say. -/
  answers : List BusAnswer
  deriving DecidableEq, Repr

/-- The configuration (R18). -/
structure Config where
  /-- `SEL`: row `e`, column `i` is the source lane read by lane `i` (R101). -/
  sel : Vector (Vector LaneIx 8) 16
  /-- `RCP_ROM` (R212). -/
  rcpRom : Vector Lane 512
  /-- `RSQ_ROM` (R213). -/
  rsqRom : Vector Lane 512
  /-- `VCE_READ_SEXT`: CFC2 sign-extends `VCE` from bit 7 (R233). -/
  vceReadSext : Bool
  /-- `ABS_MIN_WRAPS`: VABS of 0x8000 under a negative source wraps in the register too (R202). -/
  absMinWraps : Bool
  /-- `LOGICAL_ACC_LO`: the logical instructions copy their result to the low accumulator plane (R160). -/
  logicalAccLo : Bool
  bus : Bus
  deriving DecidableEq, Repr

/-- The open parameter `VCE_READ_SEXT` at reset: the spec gives it no recommended value (R11, R233, D20), so nothing can
be proved of it (log 7). -/
opaque Config.vceReadSextOpen : Bool

end Sys2Proof
end

