-- ==== Sys2Proof/Machine/State.lean ====
section
/-!
DEFINITION. The state of one vector unit (10_state.md R20 to R41), the memory behind its bus (20_memory.md R50), its
command port (30_encoding.md R70, R71) and its configuration (00_scope.md R18); the two ways a step can stop; the state
after reset (70_reset_and_hazards.md R260).
-/

namespace Sys2Proof.Machine

/-- A command: a 32-bit word and the scalar operand `SDATA_IN` that comes with it (R70, R71). -/
structure Command where
  iw    : Word
  sdata : Word
  deriving DecidableEq, Repr

/-- The faults: the one synchronous exception of the block (R241, R245). -/
inductive Fault where
  /-- `BusFault(addr)`: raised by the sixteen loads and stores when the bus refuses their transaction; `addr` is the
  address the bus reports, and nothing has changed (R52, R241). Safe: the spec ends the command so (log 9). -/
  | busFault (addr : Word)
  deriving DecidableEq, Repr

/-- The refusals. -/
inductive Refusal where
  /-- An instruction whose arm has no meaning yet; raised by no arm of this model. Safe. -/
  | notModelled (mnemonic : String)
  /-- `Refused`: the word spells no instruction of the opcode table; raised by the step when decoding fails
  (R86, R244, U1). Safe: the spec gives such a word no behaviour (log 10). -/
  | undecodable (why : Undecodable) (iw : Word)
  deriving DecidableEq, Repr

/-- The state. -/
structure State where
  /-- `VR[0..31]` (R20). -/
  vr : Vector VReg 32
  /-- `ACC[0..7]` (R24). -/
  acc : AccReg
  /-- `VCO`: carry 7:0, ne 15:8 (R27). -/
  vco : BitVec 16
  /-- `VCC`: le 7:0, ge 15:8 (R28). -/
  vcc : BitVec 16
  /-- `VCE`: ce 7:0 (R29). -/
  vce : BitVec 8
  /-- `DIV_IN` (R33). -/
  divIn : BitVec 16
  /-- `DIV_OUT` (R33). -/
  divOut : BitVec 16
  /-- `DP` (R33). -/
  dp : Bool
  /-- The memory behind the bus (R50), in the canonical form `Memory.wf`. -/
  mem : List Host.Cell
  /-- `SDATA_IN` of the command being executed (R71). -/
  sdataIn : Word
  /-- `SDATA_OUT` of the last command, `none` where it returned no scalar value (R71). -/
  sdataOut : Option Word
  /-- Commands presented and not yet taken, first to last (R36, R70; log 1). -/
  commands : List Command
  /-- The configuration (R18; log 6). -/
  cfg : Config
  deriving DecidableEq, Repr

/-- The state after reset: idle, no command presented (R260). The spec leaves every bit of the block unspecified (R40);
the zeros are named values of log 4 (DESIGN CHOICE), the memory lists nothing (log 5), the configuration is the
recommended one (R18). -/
def State.reset : State where
  vr := Vector.replicate 32 (Vector.replicate 8 0#16)
  acc := Vector.replicate 8 0#48
  vco := 0#16
  vcc := 0#16
  vce := 0#8
  divIn := 0#16
  divOut := 0#16
  dp := false
  mem := []
  sdataIn := 0#32
  sdataOut := none
  commands := []
  cfg := Config.recommended

end Sys2Proof.Machine
end

