-- ==== Sys2Proof/Machine/Ops.lean ====
section
/-!
DEFINITION. The named operations over memory, bus, registers and accumulator, and the one way an instruction ends in an
exception (10_state.md; 20_memory.md; 60_exceptions.md R241). An instruction reads the state it was given and builds the
next one with these, so all reads precede all writes (00_scope.md R14).
-/

namespace Sys2Proof.Machine

/-! ## Memory -/

/-- What a byte that is not listed reads as: the spec leaves memory's content before a program writes it open (U5).
DESIGN CHOICE, unsafe (log 5). -/
def Memory.unlisted : Byte := 0#8

/-- No listed address up to `lo` and strictly rising addresses from there, no listed byte that an unlisted address would
read as. -/
def Memory.wfFrom : Option Nat → List Host.Cell → Bool
  | _, [] => true
  | lo, c :: m => decide (∀ l ∈ lo, l < c.1) && decide (c.2 ≠ Memory.unlisted) && Memory.wfFrom (some c.1) m

/-- The canonical form of a memory. -/
def Memory.wf (m : List Host.Cell) : Bool := Memory.wfFrom none m

/-- The byte at an address. -/
def Memory.read : List Host.Cell → Nat → Byte
  | [], _ => Memory.unlisted
  | c :: m, a => if a < c.1 then Memory.unlisted else if a = c.1 then c.2 else Memory.read m a

/-- Memory with one byte written; writing what an unlisted byte reads as removes the entry. -/
def Memory.write : List Host.Cell → Nat → Byte → List Host.Cell
  | [], a, b => if b = Memory.unlisted then [] else [(a, b)]
  | c :: m, a, b =>
    if a < c.1 then (if b = Memory.unlisted then c :: m else (a, b) :: c :: m)
    else if a = c.1 then (if b = Memory.unlisted then m else (a, b) :: m)
    else c :: Memory.write m a b

/-- Memory with a list of bytes written, first to last. -/
def Memory.writeAll : List Host.Cell → List Host.Cell → List Host.Cell
  | m, [] => m
  | m, c :: cs => Memory.writeAll (Memory.write m c.1 c.2) cs

/-! ## The bus (R51 to R53) -/

/-- The memory byte a bus address names. -/
def busIndex (b : Bus) (a : Word) : Nat := (b.places.lookup a).getD (a.toNat % b.size)

/-- No two of up to sixteen neighbouring addresses name one byte, so that a transaction can store "byte `k` at `addrs[k]` for
every `k`" (R51; log 16). -/
def busWf (b : Bus) : Prop :=
  ∀ (a : Word) (j k : Nat), j < 16 → k < 16 →
    busIndex b (a + BitVec.ofNat 32 j) = busIndex b (a + BitVec.ofNat 32 k) → j = k

/-- The ranges that fault by themselves under an access. -/
def refusedRanges (b : Bus) : Access → List AddrRange
  | .read => b.readRefused
  | .write => b.writeRefused

/-- The addresses of a transaction that lie in a refused range. -/
def refusedAddrs (ranges : List AddrRange) (addrs : List Word) : List Word :=
  addrs.filter fun a => ranges.any fun r => decide (r.lo ≤ a.toNat) && decide (a.toNat < r.hi)

/-- The lowest of a list of addresses. -/
def lowestAddr : List Word → Option Word
  | [] => none
  | a :: l =>
    match lowestAddr l with
    | none => some a
    | some c => if c.toNat < a.toNat then some c else some a

/-- The bus has this answer set down for exactly this transaction; a fault counts only with an address of the list (R51). -/
def answerIsFor (x : BusAnswer) (acc : Access) (addrs : List Word) : Bool :=
  decide (x.access = acc) && decide (x.addrs = addrs) && x.fault.all fun a => decide (a ∈ addrs)

/-- The bus's answer to a transaction: `none` where it accepts, `some a` where it answers `fault(a)`; "which address is
reported is the bus's choice" (R249, U4; log 8). A call of no bytes cannot fault (R51). -/
def busRefusal (b : Bus) (acc : Access) (addrs : List Word) : Option Word :=
  match b.answers.find? fun x => answerIsFor x acc addrs with
  | some x => x.fault
  | none => lowestAddr (refusedAddrs (refusedRanges b acc) addrs)

/-- The byte at a bus address. -/
def State.readByte (s : State) (a : Word) : Byte := Memory.read s.mem (busIndex s.cfg.bus a)

/-- `MemReadV(addrs)` (R51): all the bytes, or the address of the fault. -/
def State.memReadV (s : State) (addrs : List Word) : Except Word (List Byte) :=
  match busRefusal s.cfg.bus .read addrs with
  | some a => .error a
  | none => .ok (addrs.map s.readByte)

/-- `MemWriteV(addrs, bytes)` (R51): every byte stored, or the address of the fault and nothing stored. -/
def State.memWriteV (s : State) (addrs : List Word) (bytes : List Byte) : Except Word State :=
  match busRefusal s.cfg.bus .write addrs with
  | some a => .error a
  | none => .ok { s with mem := Memory.writeAll s.mem ((addrs.map (busIndex s.cfg.bus)).zip bytes) }

/-! ## The exception -/

/-- Taking the block's one exception (R241, R249): the outcome carries the address the bus reported and the state is the
one before the command; nothing is saved, no mode changes and there is no handler to go to and no return. -/
def raiseBusFault (a : Word) : Host.Outcome State Fault Refusal := .fault (.busFault a)

/-! ## Vector registers (R20 to R23) -/

/-- `VR[r] <- v`. -/
def State.setVR (s : State) (r : Fin 32) (v : VReg) : State := { s with vr := s.vr.set r v }

/-- `VR[r][i] <- f i` for all eight lanes. -/
def State.setLanes (s : State) (r : Fin 32) (f : LaneIx → Lane) : State := s.setVR r (Vector.ofFn f)

/-- `VR[r][i] <- x`: the other seven lanes keep their values. -/
def State.setLane (s : State) (r : Fin 32) (i : LaneIx) (x : Lane) : State := s.setVR r (s.vr[r].set i x)

/-- Byte `k` of a register: byte `2i` is the upper byte of lane `i`, byte `2i+1` the lower (R22). -/
def regByte (v : VReg) (k : Fin 16) : Byte :=
  if k.val % 2 = 0 then (v[k.val / 2]'(by omega)).extractLsb' 8 8 else (v[k.val / 2]'(by omega)).extractLsb' 0 8

/-- The register with the given sixteen bytes (R22). -/
def regOfBytes (f : Fin 16 → Byte) : VReg :=
  Vector.ofFn fun i : LaneIx => f ⟨2 * i.val, by omega⟩ ++ f ⟨2 * i.val + 1, by omega⟩

/-- A register with the bytes `start, start + 1, ...` replaced by those of a list, as far as the register goes; the other
bytes are kept (R140). -/
def mergeBytes (v : VReg) (start : Nat) (bytes : List Byte) : VReg :=
  regOfBytes fun k =>
    if start ≤ k.val ∧ k.val < start + bytes.length then bytes.getD (k.val - start) 0#8 else regByte v k

/-! ## Accumulator (R24 to R26) -/

/-- `ACC_HI`: bits 47:32. -/
def accHi (a : AccLane) : Lane := a.extractLsb' 32 16

/-- `ACC_MD`: bits 31:16. -/
def accMd (a : AccLane) : Lane := a.extractLsb' 16 16

/-- `ACC_LO`: bits 15:0. -/
def accLo (a : AccLane) : Lane := a.extractLsb' 0 16

/-- Bits 47:16 of the accumulator as a signed number, `sint(A[47:16])` (R106 to R108). -/
def accUpper (a : AccLane) : Int := (a.extractLsb' 16 32).toInt

/-- `ACC[i] <- f i` for all eight lanes, all three planes. -/
def State.setAcc (s : State) (f : LaneIx → AccLane) : State := { s with acc := Vector.ofFn f }

/-- `ACC_LO[i] <- f i` for all eight lanes: the upper planes keep their values (R26). -/
def State.setAccLo (s : State) (f : LaneIx → Lane) : State :=
  s.setAcc fun i => s.acc[i].extractLsb' 16 32 ++ f i

/-! ## Flags, latches and the scalar port -/

/-- `VCO <- v`. -/
def State.setVco (s : State) (v : BitVec 16) : State := { s with vco := v }

/-- `VCC <- v`. -/
def State.setVcc (s : State) (v : BitVec 16) : State := { s with vcc := v }

/-- `VCE <- v`. -/
def State.setVce (s : State) (v : BitVec 8) : State := { s with vce := v }

/-- `DIV_IN <- v`. -/
def State.setDivIn (s : State) (v : BitVec 16) : State := { s with divIn := v }

/-- `DIV_OUT <- v`. -/
def State.setDivOut (s : State) (v : BitVec 16) : State := { s with divOut := v }

/-- `DP <- v`. -/
def State.setDp (s : State) (v : Bool) : State := { s with dp := v }

/-- `SDATA_OUT <- v` (R71). -/
def State.setScalarOut (s : State) (v : Word) : State := { s with sdataOut := some v }

end Sys2Proof.Machine
end

