-- ==== Sys2Proof/Machine/Clamp.lean ====
section
/-!
DEFINITION. The clamps (40_common_datapath.md R105 to R108, R110).
-/

namespace Sys2Proof.Machine

/-- `clamp_s16(x)` (R105). -/
def clampS16 (x : Int) : Lane :=
  if x < -32768 then 0x8000#16 else if x > 32767 then 0x7FFF#16 else BitVec.ofInt 16 x

/-- `clamp_signed_mid(A)` (R106). -/
def clampSignedMid (a : AccLane) : Lane := clampS16 (accUpper a)

/-- `clamp_unsigned_mid(A)` (R107). -/
def clampUnsignedMid (a : AccLane) : Lane :=
  if accUpper a < 0 then 0x0000#16 else if accUpper a > 0x7FFF then 0xFFFF#16 else accMd a

/-- `clamp_unsigned_low(A)` (R108). -/
def clampUnsignedLow (a : AccLane) : Lane :=
  if accUpper a < -32768 then 0x0000#16 else if accUpper a > 32767 then 0xFFFF#16 else accLo a

end Sys2Proof.Machine
end

