-- ==== Sys2Proof/Machine/Flags.lean ====
section
/-!
DEFINITION. The flag registers' bits, the packed form and the lane-mask form (10_state.md R27 to R31, R39), and the
flag number of CFC2 and CTC2 (48_register_access.md R232).
-/

namespace Sys2Proof.Machine

/-- `VCO.carry[i]`: bit `i` (R27). -/
def State.carry (s : State) (i : LaneIx) : Bool := s.vco.getLsbD i.val

/-- `VCO.ne[i]`: bit `8 + i` (R27). -/
def State.ne (s : State) (i : LaneIx) : Bool := s.vco.getLsbD (8 + i.val)

/-- `VCC.le[i]`: bit `i` (R28). -/
def State.le (s : State) (i : LaneIx) : Bool := s.vcc.getLsbD i.val

/-- `VCC.ge[i]`: bit `8 + i` (R28). -/
def State.ge (s : State) (i : LaneIx) : Bool := s.vcc.getLsbD (8 + i.val)

/-- `VCE.ce[i]`: bit `i` (R29). -/
def State.ce (s : State) (i : LaneIx) : Bool := s.vce.getLsbD i.val

/-- One half from per-lane Booleans: bit `i` is lane `i` (R21, R111). -/
def packHalf (f : LaneIx → Bool) : BitVec 8 := BitVec.ofFnLE f

/-- A two-half flag register: the first argument is the low half (R27, R28). -/
def packFlags (lo hi : LaneIx → Bool) : BitVec 16 := packHalf hi ++ packHalf lo

/-- The lane-mask form of a half (R30). -/
def laneMask (h : BitVec 8) : VReg := Vector.ofFn fun i => if h.getLsbD i.val then 0xFFFF#16 else 0x0000#16

/-- The packed form of a lane mask: bit `i` is set exactly when lane `i` is not zero (R30, R31). -/
def packMask (m : VReg) : BitVec 8 := packHalf fun i => decide (m[i] ≠ 0#16)

/-- A flag register by its number (R232, R39). -/
inductive FlagReg where
  | vco
  | vcc
  | vce
  deriving DecidableEq, Repr

/-- "c = 0 selects VCO, c = 1 selects VCC, c = 2 and c = 3 both select VCE" (R232). -/
def flagOf (c : Fin 4) : FlagReg :=
  if c.val = 0 then .vco else if c.val = 1 then .vcc else .vce

end Sys2Proof.Machine
end

