-- ==== Sys2Proof/Machine/Operands.lean ====
section
/-!
DEFINITION. The operand forms: lane selection (40_common_datapath.md R100 to R103), effective addresses and address lists
(41_load_store.md R122 to R138), register bytes of a store.
-/

namespace Sys2Proof.Machine

/-- `S[i] = VR[vs][i]` (R100). -/
def State.srcS (s : State) (vs : Fin 32) (i : LaneIx) : Lane := s.vr[vs][i]

/-- `T[i] = VR[vt][SEL[e][i]]` (R100). -/
def State.srcT (s : State) (vt : Fin 32) (e : Fin 16) (i : LaneIx) : Lane := s.vr[vt][s.cfg.sel[e][i]]

/-- The input lane of a reciprocal instruction: `VR[vt][e & 7]` (R214). -/
def State.srcLane (s : State) (vt : Fin 32) (e : Fin 16) : Lane := s.vr[vt][e.val % 8]'(by omega)

/-- `EA = (SDATA_IN + sint(offset) * scale) mod 2^32` (R75, R122). -/
def effAddr (sdata : Word) (offset : Int) (scale : Nat) : Word := BitVec.ofInt 32 (sdata.toNat + offset * scale)

/-- `[a, a + 1, ..., a + n - 1]`, each mod 2^32 (R51). -/
def consecutive (a : Word) (n : Nat) : List Word := (List.range n).map fun k => a + BitVec.ofNat 32 k

/-- The eight addresses of LPV and LUV: `idx = ((EA & 7) - e) mod 16`, inside the 16-byte window at `EA - (EA & 7)`
(R129). -/
def packedAddrs (ea : Word) (e : Fin 16) : List Word :=
  (List.range 8).map fun i =>
    BitVec.ofNat 32 (ea.toNat - ea.toNat % 8) + BitVec.ofNat 32 (((ea.toNat % 8 + 16 - e.val) % 16 + i) % 16)

/-- `[VRB[(start + k) mod 16] for k in 0..n-1]`: a store's register index wraps (R132). -/
def regBytes (v : VReg) (start n : Nat) : List Byte :=
  (List.range n).map fun k => regByte v (Fin.ofNat 16 (start + k))

/-- The upper byte of lane `j mod 8` (R137). -/
def upperByte (v : VReg) (j : Nat) : Byte := (v[j % 8]'(by omega)).extractLsb' 8 8

/-- Bits 14:7 of lane `j mod 8` (R137). -/
def fractionByte (v : VReg) (j : Nat) : Byte := (v[j % 8]'(by omega)).extractLsb' 7 8

end Sys2Proof.Machine
end

