-- ==== Sys2Proof/Machine/AddSub.lean ====
section
/-!
DEFINITION. Add and subtract with carry (42_add_sub.md R150 to R154).
-/

namespace Sys2Proof.Machine

/-- VADD and VSUB from the exact three-term value of each lane: the wrapped value to `ACC_LO`, the saturated one to
`VR[vd]`, `VCO` cleared (R150). -/
def addSaturating (vd : Fin 32) (x : LaneIx → Int) (s : State) : State :=
  ((s.setAccLo fun i => BitVec.ofInt 16 (x i)).setLanes vd fun i => clampS16 (x i)).setVco 0#16

/-- VADDC and VSUBC from the exact value of each lane: the wrapped value to `ACC_LO` and `VR[vd]`, a fresh `VCO` (R150). -/
def addWrapping (vd : Fin 32) (x : LaneIx → Int) (carry ne : LaneIx → Bool) (s : State) : State :=
  ((s.setAccLo fun i => BitVec.ofInt 16 (x i)).setLanes vd fun i => BitVec.ofInt 16 (x i)).setVco (packFlags carry ne)

/-- VADD (R151). -/
def execVadd (o : V3) (s : State) : Host.Outcome State Fault Refusal :=
  .next (addSaturating o.vd
    (fun i => (s.srcS o.vs i).toInt + (s.srcT o.vt o.e i).toInt + ((s.carry i).toNat : Int)) s)

/-- VSUB (R152). -/
def execVsub (o : V3) (s : State) : Host.Outcome State Fault Refusal :=
  .next (addSaturating o.vd
    (fun i => (s.srcS o.vs i).toInt - (s.srcT o.vt o.e i).toInt - ((s.carry i).toNat : Int)) s)

/-- VADDC (R153): carry out of the unsigned sum, not-equal cleared. -/
def execVaddc (o : V3) (s : State) : Host.Outcome State Fault Refusal :=
  .next (addWrapping o.vd
    (fun i => ((s.srcS o.vs i).toNat : Int) + ((s.srcT o.vt o.e i).toNat : Int))
    (fun i => decide ((s.srcS o.vs i).toNat + (s.srcT o.vt o.e i).toNat ≥ 2 ^ 16))
    (fun _ => false) s)

/-- VSUBC (R154): borrow out of the unsigned difference, not-equal set where it is not zero. -/
def execVsubc (o : V3) (s : State) : Host.Outcome State Fault Refusal :=
  .next (addWrapping o.vd
    (fun i => ((s.srcS o.vs i).toNat : Int) - ((s.srcT o.vt o.e i).toNat : Int))
    (fun i => decide ((s.srcS o.vs i).toNat < (s.srcT o.vt o.e i).toNat))
    (fun i => decide (s.srcS o.vs i ≠ s.srcT o.vt o.e i)) s)

end Sys2Proof.Machine
end

