-- ==== Sys2Proof/Machine/Compare.lean ====
section
/-!
DEFINITION. Compare and select (45_compare_select.md R190 to R197). Every lane is computed from its own sources and flag
bits (R190).
-/

namespace Sys2Proof.Machine

/-- The selected lane to `VR[vd]` and `ACC_LO` (R190). -/
def State.select (s : State) (vd : Fin 32) (r : LaneIx → Lane) : State := (s.setAccLo r).setLanes vd r

/-- The four select compares from their lane mask: the masked lane, `VCC.le` the mask, `VCC.ge` and `VCO` cleared (R191 to
R194). -/
def selectCompare (o : V3) (mask : LaneIx → Bool) (s : State) : State :=
  ((s.select o.vd fun i => if mask i then s.srcS o.vs i else s.srcT o.vt o.e i).setVcc
    (packFlags mask fun _ => false)).setVco 0#16

/-- VLT (R191). -/
def execVlt (o : V3) (s : State) : Host.Outcome State Fault Refusal :=
  .next (selectCompare o (fun i =>
    decide ((s.srcS o.vs i).toInt < (s.srcT o.vt o.e i).toInt)
      || (decide (s.srcS o.vs i = s.srcT o.vt o.e i) && s.ne i && s.carry i)) s)

/-- VEQ (R192). -/
def execVeq (o : V3) (s : State) : Host.Outcome State Fault Refusal :=
  .next (selectCompare o (fun i => decide (s.srcS o.vs i = s.srcT o.vt o.e i) && !s.ne i) s)

/-- VNE (R193). -/
def execVne (o : V3) (s : State) : Host.Outcome State Fault Refusal :=
  .next (selectCompare o (fun i => decide (s.srcS o.vs i ≠ s.srcT o.vt o.e i) || s.ne i) s)

/-- VGE (R194). -/
def execVge (o : V3) (s : State) : Host.Outcome State Fault Refusal :=
  .next (selectCompare o (fun i =>
    decide ((s.srcS o.vs i).toInt > (s.srcT o.vt o.e i).toInt)
      || (decide (s.srcS o.vs i = s.srcT o.vt o.e i) && !(s.ne i && s.carry i))) s)

/-- What a clip compare computes for one lane: the selected lane and its five flag bits. -/
structure ClipLane where
  r  : Lane
  le : Bool
  ge : Bool
  cy : Bool
  ne : Bool
  ce : Bool
  deriving DecidableEq, Repr

/-- The clip compares from their lanes (R195 to R197). -/
def clip (o : V3) (f : LaneIx → ClipLane) (s : State) : State :=
  (((s.select o.vd fun i => (f i).r).setVcc (packFlags (fun i => (f i).le) fun i => (f i).ge)).setVco
    (packFlags (fun i => (f i).cy) fun i => (f i).ne)).setVce (packHalf fun i => (f i).ce)

/-- One lane of VCH (R195). -/
def clipHigh (a b : Lane) : ClipLane :=
  if a.msb ≠ b.msb then
    let x := a.toInt + b.toInt
    let le := decide (x ≤ 0)
    ⟨if le then -b else a, le, decide (b.toInt < 0), true, decide (x ≠ 0 ∧ x ≠ -1), decide (x = -1)⟩
  else
    let x := a.toInt - b.toInt
    let ge := decide (x ≥ 0)
    ⟨if ge then b else a, decide (b.toInt < 0), ge, false, decide (x ≠ 0), false⟩

/-- VCH (R195). -/
def execVch (o : V3) (s : State) : Host.Outcome State Fault Refusal :=
  .next (clip o (fun i => clipHigh (s.srcS o.vs i) (s.srcT o.vt o.e i)) s)

/-- One lane of VCL (R196) from the lane's old flag bits; `VCO` and `VCE` are cleared. -/
def clipLow (a b : Lane) (le ge cy ne ce : Bool) : ClipLane :=
  if cy then
    let x := a.toNat + b.toNat
    let z := decide (x % 2 ^ 16 = 0)
    let nc := decide (x < 2 ^ 16)
    let le' := if ne then le else if ce then z || nc else z && nc
    ⟨if le' then -b else a, le', ge, false, false, false⟩
  else
    let ge' := if ne then ge else decide (a.toNat ≥ b.toNat)
    ⟨if ge' then b else a, le, ge', false, false, false⟩

/-- VCL (R196). -/
def execVcl (o : V3) (s : State) : Host.Outcome State Fault Refusal :=
  .next (clip o (fun i =>
    clipLow (s.srcS o.vs i) (s.srcT o.vt o.e i) (s.le i) (s.ge i) (s.carry i) (s.ne i) (s.ce i)) s)

/-- One lane of VCR (R197); `VCO` and `VCE` are cleared. -/
def clipReverse (a b : Lane) : ClipLane :=
  if a.msb ≠ b.msb then
    let le := decide (a.toInt + b.toInt + 1 ≤ 0)
    ⟨if le then ~~~b else a, le, decide (b.toInt < 0), false, false, false⟩
  else
    let ge := decide (a.toInt - b.toInt ≥ 0)
    ⟨if ge then b else a, decide (b.toInt < 0), ge, false, false, false⟩

/-- VCR (R197). -/
def execVcr (o : V3) (s : State) : Host.Outcome State Fault Refusal :=
  .next (clip o (fun i => clipReverse (s.srcS o.vs i) (s.srcT o.vt o.e i)) s)

end Sys2Proof.Machine
end

