-- ==== Sys2Proof/Machine/LoadStore.lean ====
section
/-!
DEFINITION. Vector loads and stores (41_load_store.md R120 to R140). Each makes one bus transaction for exactly the bytes
its rule lists; a refused one ends in the bus fault with nothing changed (R140, R241).
-/

namespace Sys2Proof.Machine

/-- One bus read, then the register the bytes give. -/
def loadReg (vt : Fin 32) (addrs : List Word) (f : List Byte → VReg) (s : State) : Host.Outcome State Fault Refusal :=
  match s.memReadV addrs with
  | .error a => raiseBusFault a
  | .ok bytes => .next (s.setVR vt (f bytes))

/-- One bus write. -/
def storeReg (addrs : List Word) (bytes : List Byte) (s : State) : Host.Outcome State Fault Refusal :=
  match s.memWriteV addrs bytes with
  | .error a => raiseBusFault a
  | .ok s' => .next s'

/-- A load's effective address (R122). -/
def State.ea (s : State) (o : LS) (scale : Nat) : Word := effAddr s.sdataIn o.offset scale

/-- The bytes LBV, LSV, LLV, LDV move: the register does not wrap on a load (R123 to R126). -/
def groupCount (width : Nat) (e : Fin 16) : Nat := min width (16 - e.val)

/-- LBV, LSV, LLV, LDV: `width` is also the scale (R123 to R126). -/
def loadGroup (width : Nat) (o : LS) (s : State) : Host.Outcome State Fault Refusal :=
  loadReg o.vt (consecutive (s.ea o width) (groupCount width o.e)) (mergeBytes s.vr[o.vt] o.e.val) s

/-- SBV, SSV, SLV, SDV: the full width, the register index wraps (R131 to R134). -/
def storeGroup (width : Nat) (o : LS) (s : State) : Host.Outcome State Fault Refusal :=
  storeReg (consecutive (s.ea o width) width) (regBytes s.vr[o.vt] o.e.val width) s

/-- LBV (R123). -/
def execLbv (o : LS) (s : State) : Host.Outcome State Fault Refusal := loadGroup 1 o s

/-- LSV (R124). -/
def execLsv (o : LS) (s : State) : Host.Outcome State Fault Refusal := loadGroup 2 o s

/-- LLV (R125). -/
def execLlv (o : LS) (s : State) : Host.Outcome State Fault Refusal := loadGroup 4 o s

/-- LDV (R126). -/
def execLdv (o : LS) (s : State) : Host.Outcome State Fault Refusal := loadGroup 8 o s

/-- The bytes LQV moves (R127). -/
def quadCount (ea : Word) (e : Fin 16) : Nat := min (16 - ea.toNat % 16) (16 - e.val)

/-- LQV (R127): from `EA` to the end of its 16-byte line. -/
def execLqv (o : LS) (s : State) : Host.Outcome State Fault Refusal :=
  loadReg o.vt (consecutive (s.ea o 16) (quadCount (s.ea o 16) o.e)) (mergeBytes s.vr[o.vt] o.e.val) s

/-- The 16-byte line of an address (R128). -/
def lineOf (ea : Word) : Word := BitVec.ofNat 32 (ea.toNat - ea.toNat % 16)

/-- The bytes LRV moves (R128). -/
def restCount (ea : Word) (e : Fin 16) : Nat := ea.toNat % 16 - e.val

/-- LRV (R128): the part of the line before `EA`, right-justified in the register. -/
def execLrv (o : LS) (s : State) : Host.Outcome State Fault Refusal :=
  loadReg o.vt (consecutive (lineOf (s.ea o 16)) (restCount (s.ea o 16) o.e))
    (mergeBytes s.vr[o.vt] (16 - restCount (s.ea o 16) o.e)) s

/-- LPV (R129): one byte into the upper byte of each lane. -/
def execLpv (o : LS) (s : State) : Host.Outcome State Fault Refusal :=
  loadReg o.vt (packedAddrs (s.ea o 8) o.e)
    (fun bytes => Vector.ofFn fun i : LaneIx => bytes.getD i.val 0#8 ++ 0#8) s

/-- LUV (R130): one byte into bits 14:7 of each lane. -/
def execLuv (o : LS) (s : State) : Host.Outcome State Fault Refusal :=
  loadReg o.vt (packedAddrs (s.ea o 8) o.e)
    (fun bytes => Vector.ofFn fun i : LaneIx => 0#1 ++ bytes.getD i.val 0#8 ++ 0#7) s

/-- SBV (R131). -/
def execSbv (o : LS) (s : State) : Host.Outcome State Fault Refusal := storeGroup 1 o s

/-- SSV (R132). -/
def execSsv (o : LS) (s : State) : Host.Outcome State Fault Refusal := storeGroup 2 o s

/-- SLV (R133). -/
def execSlv (o : LS) (s : State) : Host.Outcome State Fault Refusal := storeGroup 4 o s

/-- SDV (R134). -/
def execSdv (o : LS) (s : State) : Host.Outcome State Fault Refusal := storeGroup 8 o s

/-- SQV (R135): "the count depends on the address only". -/
def execSqv (o : LS) (s : State) : Host.Outcome State Fault Refusal :=
  let n := 16 - (s.ea o 16).toNat % 16
  storeReg (consecutive (s.ea o 16) n) (regBytes s.vr[o.vt] o.e.val n) s

/-- SRV (R136): the part of the line before `EA`. -/
def execSrv (o : LS) (s : State) : Host.Outcome State Fault Refusal :=
  let a := (s.ea o 16).toNat % 16
  storeReg (consecutive (lineOf (s.ea o 16)) a) (regBytes s.vr[o.vt] (o.e.val + 16 - a) a) s

/-- Byte `k` that SPV stores (R137). -/
def packedByte (v : VReg) (e : Fin 16) (k : Nat) : Byte :=
  if (e.val + k) % 16 < 8 then upperByte v (e.val + k) else fractionByte v (e.val + k)

/-- Byte `k` that SUV stores (R138): "the mirror image of SPV". -/
def unsignedByte (v : VReg) (e : Fin 16) (k : Nat) : Byte :=
  if (e.val + k) % 16 < 8 then fractionByte v (e.val + k) else upperByte v (e.val + k)

/-- SPV (R137). -/
def execSpv (o : LS) (s : State) : Host.Outcome State Fault Refusal :=
  storeReg (consecutive (s.ea o 8) 8) ((List.range 8).map (packedByte s.vr[o.vt] o.e)) s

/-- SUV (R138). -/
def execSuv (o : LS) (s : State) : Host.Outcome State Fault Refusal :=
  storeReg (consecutive (s.ea o 8) 8) ((List.range 8).map (unsignedByte s.vr[o.vt] o.e)) s

end Sys2Proof.Machine
end

