-- ==== Sys2Proof/Machine/Logical.lean ====
section
/-!
DEFINITION. The logical instructions (43_logical.md R160 to R166).
-/

namespace Sys2Proof.Machine

/-- The family (R160): the result to `VR[vd]`, and to `ACC_LO` when `LOGICAL_ACC_LO` is true. -/
def logical (o : V3) (f : Lane → Lane → Lane) (s : State) : State :=
  let r := fun i => f (s.srcS o.vs i) (s.srcT o.vt o.e i)
  (if s.cfg.logicalAccLo then s.setAccLo r else s).setLanes o.vd r

/-- VAND (R161). -/
def execVand (o : V3) (s : State) : Host.Outcome State Fault Refusal := .next (logical o (fun a b => a &&& b) s)

/-- VNAND (R162). -/
def execVnand (o : V3) (s : State) : Host.Outcome State Fault Refusal := .next (logical o (fun a b => ~~~(a &&& b)) s)

/-- VOR (R163). -/
def execVor (o : V3) (s : State) : Host.Outcome State Fault Refusal := .next (logical o (fun a b => a ||| b) s)

/-- VNOR (R164). -/
def execVnor (o : V3) (s : State) : Host.Outcome State Fault Refusal := .next (logical o (fun a b => ~~~(a ||| b)) s)

/-- VXOR (R165). -/
def execVxor (o : V3) (s : State) : Host.Outcome State Fault Refusal := .next (logical o (fun a b => a ^^^ b) s)

/-- VNXOR (R166). -/
def execVnxor (o : V3) (s : State) : Host.Outcome State Fault Refusal := .next (logical o (fun a b => ~~~(a ^^^ b)) s)

end Sys2Proof.Machine
end

