-- ==== Sys2Proof/Machine/MergeMove.lean ====
section
/-!
DEFINITION. Merge, absolute value, move, accumulator read, no operation (46_merge_abs_move.md R200 to R206).
-/

namespace Sys2Proof.Machine

/-- VMRG (R201). -/
def execVmrg (o : V3) (s : State) : Host.Outcome State Fault Refusal :=
  let r := fun i => if s.le i then s.srcS o.vs i else s.srcT o.vt o.e i
  .next ((s.setAccLo r).setLanes o.vd r)

/-- `lo` of R202: `T` with the sign of `S`; the negation wraps. -/
def absLow (a b : Lane) : Lane :=
  if a.toInt < 0 then BitVec.ofInt 16 (-b.toInt) else if a = 0#16 then 0#16 else b

/-- `r` of R202: as `lo`, but for 0x8000 under a negative source, which `ABS_MIN_WRAPS` decides. -/
def absResult (minWraps : Bool) (a b : Lane) : Lane :=
  if a.toInt < 0 ∧ b = 0x8000#16 then (if minWraps then 0x8000#16 else 0x7FFF#16) else absLow a b

/-- VABS (R202). -/
def execVabs (o : V3) (s : State) : Host.Outcome State Fault Refusal :=
  .next ((s.setAccLo fun i => absLow (s.srcS o.vs i) (s.srcT o.vt o.e i)).setLanes o.vd
    fun i => absResult s.cfg.absMinWraps (s.srcS o.vs i) (s.srcT o.vt o.e i))

/-- VMOV (R203): one lane of the destination, all eight of `ACC_LO`. -/
def execVmov (o : V1) (s : State) : Host.Outcome State Fault Refusal :=
  .next ((s.setAccLo (s.srcT o.vt o.e)).setLane o.vd o.de (s.srcT o.vt o.e o.de))

/-- The plane VSAR reads (R204): "0x0000 for every other e". -/
def planeOf (e : Fin 16) (a : AccLane) : Lane :=
  if e.val = 8 then accHi a else if e.val = 9 then accMd a else if e.val = 10 then accLo a else 0#16

/-- VSAR (R204). -/
def execVsar (o : VPlane) (s : State) : Host.Outcome State Fault Refusal :=
  .next (s.setLanes o.vd fun i => planeOf o.e s.acc[i])

/-- VNOP (R205). -/
def execVnop (s : State) : Host.Outcome State Fault Refusal := .next s

/-- VNULL (R206). -/
def execVnull (s : State) : Host.Outcome State Fault Refusal := .next s

end Sys2Proof.Machine
end

