-- ==== Sys2Proof/Machine/Multiply.lean ====
section
/-!
DEFINITION. Multiply and multiply-accumulate (44_multiply.md R170 to R183).
-/

namespace Sys2Proof.Machine

/-- `sint(S) * sint(T)`. -/
def prodSS (s : State) (o : V3) (i : LaneIx) : Int := (s.srcS o.vs i).toInt * (s.srcT o.vt o.e i).toInt

/-- `sint(S) * uint(T)`. -/
def prodSU (s : State) (o : V3) (i : LaneIx) : Int := (s.srcS o.vs i).toInt * ((s.srcT o.vt o.e i).toNat : Int)

/-- `uint(S) * sint(T)`. -/
def prodUS (s : State) (o : V3) (i : LaneIx) : Int := ((s.srcS o.vs i).toNat : Int) * (s.srcT o.vt o.e i).toInt

/-- `uint(S) * uint(T)`. -/
def prodUU (s : State) (o : V3) (i : LaneIx) : Int :=
  ((s.srcS o.vs i).toNat : Int) * ((s.srcT o.vt o.e i).toNat : Int)

/-- Steps (3) and (4) of R171 for a "mul": `ACC[i] <- a mod 2^48`, `VR[vd][i]` its clamp. -/
def mulSet (o : V3) (addend : LaneIx → Int) (clamp : AccLane → Lane) (s : State) : State :=
  (s.setAcc fun i => BitVec.ofInt 48 (addend i)).setLanes o.vd fun i => clamp (BitVec.ofInt 48 (addend i))

/-- Steps (3) and (4) of R171 for a "mac": `ACC[i] <- (sint(ACC[i]) + a) mod 2^48`, `VR[vd][i]` its clamp. -/
def mulAdd (o : V3) (addend : LaneIx → Int) (clamp : AccLane → Lane) (s : State) : State :=
  mulSet o (fun i => s.acc[i].toInt + addend i) clamp s

/-- VMULF (R172). -/
def execVmulf (o : V3) (s : State) : Host.Outcome State Fault Refusal :=
  .next (mulSet o (fun i => 2 * prodSS s o i + 0x8000) clampSignedMid s)

/-- VMULU (R173). -/
def execVmulu (o : V3) (s : State) : Host.Outcome State Fault Refusal :=
  .next (mulSet o (fun i => 2 * prodSS s o i + 0x8000) clampUnsignedMid s)

/-- VMUDL (R174): the upper half of the unsigned product. -/
def execVmudl (o : V3) (s : State) : Host.Outcome State Fault Refusal :=
  .next (mulSet o (fun i => prodUU s o i / 2 ^ 16) clampUnsignedLow s)

/-- VMUDM (R175). -/
def execVmudm (o : V3) (s : State) : Host.Outcome State Fault Refusal :=
  .next (mulSet o (prodSU s o) clampSignedMid s)

/-- VMUDN (R176). -/
def execVmudn (o : V3) (s : State) : Host.Outcome State Fault Refusal :=
  .next (mulSet o (prodUS s o) clampUnsignedLow s)

/-- VMUDH (R177). -/
def execVmudh (o : V3) (s : State) : Host.Outcome State Fault Refusal :=
  .next (mulSet o (fun i => prodSS s o i * 2 ^ 16) clampSignedMid s)

/-- VMACF (R178). -/
def execVmacf (o : V3) (s : State) : Host.Outcome State Fault Refusal :=
  .next (mulAdd o (fun i => 2 * prodSS s o i) clampSignedMid s)

/-- VMACU (R179). -/
def execVmacu (o : V3) (s : State) : Host.Outcome State Fault Refusal :=
  .next (mulAdd o (fun i => 2 * prodSS s o i) clampUnsignedMid s)

/-- VMADL (R180). -/
def execVmadl (o : V3) (s : State) : Host.Outcome State Fault Refusal :=
  .next (mulAdd o (fun i => prodUU s o i / 2 ^ 16) clampUnsignedLow s)

/-- VMADM (R181). -/
def execVmadm (o : V3) (s : State) : Host.Outcome State Fault Refusal :=
  .next (mulAdd o (prodSU s o) clampSignedMid s)

/-- VMADN (R182). -/
def execVmadn (o : V3) (s : State) : Host.Outcome State Fault Refusal :=
  .next (mulAdd o (prodUS s o) clampUnsignedLow s)

/-- VMADH (R183). -/
def execVmadh (o : V3) (s : State) : Host.Outcome State Fault Refusal :=
  .next (mulAdd o (fun i => prodSS s o i * 2 ^ 16) clampSignedMid s)

end Sys2Proof.Machine
end

