-- ==== Sys2Proof/Machine/Reciprocal.lean ====
section
/-!
DEFINITION. The reciprocal unit (47_reciprocal.md R210 to R221).
-/

namespace Sys2Proof.Machine

/-- The leading zero bits of the low `n` bits of a word. -/
def leadingZeros : Nat → Word → Nat
  | 0, _ => 0
  | n + 1, d => if d.getLsbD n then 0 else leadingZeros n d + 1

/-- The sign mask of step (1) of R211. -/
def rcpMask (x : Word) : Word := if x.msb then 0xFFFFFFFF#32 else 0x00000000#32

/-- The magnitude of step (1) of R211: two's complement above -32768, one's complement from there down. -/
def rcpMagnitude (x : Word) : Word :=
  if x.toInt > -32768 then (x ^^^ rcpMask x) - rcpMask x else x ^^^ rcpMask x

/-- The nine bits below the leading one (step (4) of R211). -/
def rcpIndex (data : Word) (shift : Nat) : Fin 512 :=
  Fin.ofNat 512 (((data <<< shift) &&& 0x7FC00000#32) >>> 22).toNat

/-- The positive result of step (4) of R211. -/
def rcpScaled (c : Config) (data : Word) (rsq : Bool) : Word :=
  let shift := leadingZeros 32 data
  let index := rcpIndex data shift
  if rsq then
    let rom := c.rsqRom[Fin.ofNat 512 ((index.val &&& 0x1FE) ||| (shift &&& 1))]
    ((0x10000#32 ||| rom.zeroExtend 32) <<< 14) >>> ((31 - shift) / 2)
  else
    let rom := c.rcpRom[index]
    ((0x10000#32 ||| rom.zeroExtend 32) <<< 14) >>> (31 - shift)

/-- `rcp_core(x, is_rsq)` (R211). -/
def rcpCore (c : Config) (x : Word) (rsq : Bool) : Word :=
  if rcpMagnitude x = 0#32 then 0x7FFFFFFF#32
  else if x.toInt = -32768 then 0xFFFF0000#32
  else rcpScaled c (rcpMagnitude x) rsq ^^^ rcpMask x

/-- A result-producing instruction on the 32-bit input `x` (R216, R217): `ACC_LO` the whole selected operand, `DP` cleared,
`DIV_OUT` and the destination lane the halves of the result. -/
def recipResult (rsq : Bool) (x : Word) (o : V1) (s : State) : State :=
  let res := rcpCore s.cfg x rsq
  (((s.setAccLo (s.srcT o.vt o.e)).setDp false).setDivOut (res.extractLsb' 16 16)).setLane o.vd o.de
    (res.extractLsb' 0 16)

/-- The single-precision input: the lane sign-extended (R216). -/
def recipInput (s : State) (o : V1) : Word := (s.srcLane o.vt o.e).signExtend 32

/-- The low-half input: `DIV_IN` and the lane where `DP` is set, else the lane alone (R217). -/
def recipLowInput (s : State) (o : V1) : Word :=
  if s.dp then s.divIn ++ s.srcLane o.vt o.e else recipInput s o

/-- A high-half instruction (R218): `DIV_OUT` to the destination lane, the input lane to `DIV_IN`, `DP` set. -/
def recipHigh (o : V1) (s : State) : State :=
  (((s.setAccLo (s.srcT o.vt o.e)).setDp true).setDivIn (s.srcLane o.vt o.e)).setLane o.vd o.de s.divOut

/-- VRCP (R216). -/
def execVrcp (o : V1) (s : State) : Host.Outcome State Fault Refusal :=
  .next (recipResult false (recipInput s o) o s)

/-- VRCPL (R217). -/
def execVrcpl (o : V1) (s : State) : Host.Outcome State Fault Refusal :=
  .next (recipResult false (recipLowInput s o) o s)

/-- VRCPH (R218). -/
def execVrcph (o : V1) (s : State) : Host.Outcome State Fault Refusal := .next (recipHigh o s)

/-- VRSQ (R219). -/
def execVrsq (o : V1) (s : State) : Host.Outcome State Fault Refusal :=
  .next (recipResult true (recipInput s o) o s)

/-- VRSQL (R220). -/
def execVrsql (o : V1) (s : State) : Host.Outcome State Fault Refusal :=
  .next (recipResult true (recipLowInput s o) o s)

/-- VRSQH (R221): "identical to VRCPH". -/
def execVrsqh (o : V1) (s : State) : Host.Outcome State Fault Refusal := .next (recipHigh o s)

end Sys2Proof.Machine
end

