-- ==== Sys2Proof/Machine/RegAccess.lean ====
section
/-!
DEFINITION. Register and flag access from the scalar side (48_register_access.md R230 to R235).
-/

namespace Sys2Proof.Machine

/-- MFC2 (R231): bytes `e` and `(e + 1) mod 16`, sign-extended. -/
def execMfc2 (o : MV) (s : State) : Host.Outcome State Fault Refusal :=
  .next (s.setScalarOut
    ((regByte s.vr[o.rd] o.e ++ regByte s.vr[o.rd] (Fin.ofNat 16 (o.e.val + 1)) : BitVec 16).signExtend 32))

/-- The value CFC2 returns (R233). -/
def flagValue (s : State) : FlagReg → Word
  | .vco => s.vco.signExtend 32
  | .vcc => s.vcc.signExtend 32
  | .vce => if s.cfg.vceReadSext then s.vce.signExtend 32 else s.vce.zeroExtend 32

/-- CFC2 (R233). -/
def execCfc2 (o : MC) (s : State) : Host.Outcome State Fault Refusal :=
  .next (s.setScalarOut (flagValue s (flagOf o.c)))

/-- MTC2 (R234): with `e = 15` only one byte is written. -/
def execMtc2 (o : MV) (s : State) : Host.Outcome State Fault Refusal :=
  .next (s.setVR o.rd
    (mergeBytes s.vr[o.rd] o.e.val [s.sdataIn.extractLsb' 8 8, s.sdataIn.extractLsb' 0 8]))

/-- The flag register CTC2 writes (R235). -/
def writeFlag (s : State) (v : Word) : FlagReg → State
  | .vco => s.setVco (v.extractLsb' 0 16)
  | .vcc => s.setVcc (v.extractLsb' 0 16)
  | .vce => s.setVce (v.extractLsb' 0 8)

/-- CTC2 (R235). -/
def execCtc2 (o : MC) (s : State) : Host.Outcome State Fault Refusal :=
  .next (writeFlag s s.sdataIn (flagOf o.c))

end Sys2Proof.Machine
end

