-- ==== Sys2Proof/Machine/Dispatch.lean ====
section
/-!
DEFINITION. One arm per instruction: each calls the meaning of its instruction.
-/

namespace Sys2Proof.Machine

def exec (i : Instr) (s : State) : Host.Outcome State Fault Refusal :=
  match i with
  | .vmulf o => Sys2Proof.Machine.execVmulf o s
  | .vmulu o => Sys2Proof.Machine.execVmulu o s
  | .vmudl o => Sys2Proof.Machine.execVmudl o s
  | .vmudm o => Sys2Proof.Machine.execVmudm o s
  | .vmudn o => Sys2Proof.Machine.execVmudn o s
  | .vmudh o => Sys2Proof.Machine.execVmudh o s
  | .vmacf o => Sys2Proof.Machine.execVmacf o s
  | .vmacu o => Sys2Proof.Machine.execVmacu o s
  | .vmadl o => Sys2Proof.Machine.execVmadl o s
  | .vmadm o => Sys2Proof.Machine.execVmadm o s
  | .vmadn o => Sys2Proof.Machine.execVmadn o s
  | .vmadh o => Sys2Proof.Machine.execVmadh o s
  | .vadd o => Sys2Proof.Machine.execVadd o s
  | .vsub o => Sys2Proof.Machine.execVsub o s
  | .vabs o => Sys2Proof.Machine.execVabs o s
  | .vaddc o => Sys2Proof.Machine.execVaddc o s
  | .vsubc o => Sys2Proof.Machine.execVsubc o s
  | .vsar o => Sys2Proof.Machine.execVsar o s
  | .vlt o => Sys2Proof.Machine.execVlt o s
  | .veq o => Sys2Proof.Machine.execVeq o s
  | .vne o => Sys2Proof.Machine.execVne o s
  | .vge o => Sys2Proof.Machine.execVge o s
  | .vcl o => Sys2Proof.Machine.execVcl o s
  | .vch o => Sys2Proof.Machine.execVch o s
  | .vcr o => Sys2Proof.Machine.execVcr o s
  | .vmrg o => Sys2Proof.Machine.execVmrg o s
  | .vand o => Sys2Proof.Machine.execVand o s
  | .vnand o => Sys2Proof.Machine.execVnand o s
  | .vor o => Sys2Proof.Machine.execVor o s
  | .vnor o => Sys2Proof.Machine.execVnor o s
  | .vxor o => Sys2Proof.Machine.execVxor o s
  | .vnxor o => Sys2Proof.Machine.execVnxor o s
  | .vrcp o => Sys2Proof.Machine.execVrcp o s
  | .vrcpl o => Sys2Proof.Machine.execVrcpl o s
  | .vrcph o => Sys2Proof.Machine.execVrcph o s
  | .vmov o => Sys2Proof.Machine.execVmov o s
  | .vrsq o => Sys2Proof.Machine.execVrsq o s
  | .vrsql o => Sys2Proof.Machine.execVrsql o s
  | .vrsqh o => Sys2Proof.Machine.execVrsqh o s
  | .vnop => Sys2Proof.Machine.execVnop s
  | .vnull => Sys2Proof.Machine.execVnull s
  | .lbv o => Sys2Proof.Machine.execLbv o s
  | .lsv o => Sys2Proof.Machine.execLsv o s
  | .llv o => Sys2Proof.Machine.execLlv o s
  | .ldv o => Sys2Proof.Machine.execLdv o s
  | .lqv o => Sys2Proof.Machine.execLqv o s
  | .lrv o => Sys2Proof.Machine.execLrv o s
  | .lpv o => Sys2Proof.Machine.execLpv o s
  | .luv o => Sys2Proof.Machine.execLuv o s
  | .sbv o => Sys2Proof.Machine.execSbv o s
  | .ssv o => Sys2Proof.Machine.execSsv o s
  | .slv o => Sys2Proof.Machine.execSlv o s
  | .sdv o => Sys2Proof.Machine.execSdv o s
  | .sqv o => Sys2Proof.Machine.execSqv o s
  | .srv o => Sys2Proof.Machine.execSrv o s
  | .spv o => Sys2Proof.Machine.execSpv o s
  | .suv o => Sys2Proof.Machine.execSuv o s
  | .mfc2 o => Sys2Proof.Machine.execMfc2 o s
  | .cfc2 o => Sys2Proof.Machine.execCfc2 o s
  | .mtc2 o => Sys2Proof.Machine.execMtc2 o s
  | .ctc2 o => Sys2Proof.Machine.execCtc2 o s

end Sys2Proof.Machine
end

