-- ==== Sys2Proof/Machine/Step.lean ====
section
/-!
DEFINITION. One step: the next command is taken from the queue, decoded and executed (00_scope.md R4; 30_encoding.md R70;
60_exceptions.md R240). The three outcomes of the host are the spec's three: `Done`, `BusFault(addr)`, `Refused`.
-/

namespace Sys2Proof.Machine

/-- The state in which a command executes: its scalar operand on `SDATA_IN`, no scalar result yet (R71), the command gone
from the queue. -/
def State.takeCommand (s : State) (c : Command) (rest : List Command) : State :=
  { s with sdataIn := c.sdata, sdataOut := none, commands := rest }

/-- One step. With no command presented nothing changes (R248, R257; log 2). -/
def step (s : State) : Host.Outcome State Fault Refusal :=
  match s.commands with
  | [] => .next s
  | c :: rest =>
    match decode c.iw with
    | .error why => .refused (.undecodable why c.iw)
    | .ok i => exec i (s.takeCommand c rest)

/-- The dispatcher drops the command at the head of the queue: how a run goes on after a `BusFault` or a `Refused`, which
leave the state as it was (R241, R244, R249; log 9). -/
def State.discardCommand (s : State) : State := { s with commands := s.commands.tail }

/-- `s` with one more command presented first: the word of the table's `nbits` low bits, the bits above them zero, with the
value `SDATA_IN` has (log 1). -/
def State.withFetchWord (s : State) (nbits w : Nat) : State :=
  { s with commands := ⟨BitVec.ofNat 32 (w % 2 ^ nbits), s.sdataIn⟩ :: s.commands }

end Sys2Proof.Machine
end

