-- ==== Sys2Proof/Safety.lean ====
section
/-!
DEFINITION. What counts as a safe state and a safe run (60_exceptions.md R240, R244).
-/

namespace Sys2Proof.Machine

/-- The next state of an outcome, if it is one. -/
def nextState (r : Host.Outcome State Fault Refusal) : Option State :=
  match r with
  | .next t => some t
  | .fault _ => none
  | .refused _ => none

/-- Every listed byte is one that an address of the bus names. -/
def Memory.within (b : Bus) (m : List Host.Cell) : Prop := ∀ c ∈ m, ∃ a : Word, busIndex b a = c.1

/-- The invariant of the machine: the memory is in canonical form and lists only bytes that the bus has, and the bus can
answer a sixteen-byte transaction byte by byte (R51, R53; log 16). -/
structure State.Inv (s : State) : Prop where
  canonical : Memory.wf s.mem = true
  within : Memory.within s.cfg.bus s.mem
  bus : busWf s.cfg.bus

/-- A step is safe when it is `Done`: neither `BusFault` nor `Refused` (R240). -/
def SafeStep (s : State) : Prop := ∃ t, step s = .next t

/-- A run of `k` steps with every step `Done`: "any theorem about a run holds only for runs without a Refused step" (R244). -/
def SafeRun : Nat → State → Prop
  | 0, _ => True
  | k + 1, s => ∃ t, step s = .next t ∧ SafeRun k t

end Sys2Proof.Machine
end

