-- ==== Sys2Proof/Certificates/Slice0/Obligations.lean ====
section
/-!
DEFINITION. The statements for the provers. The first half is their vocabulary, in the spec's own words and independent of
the meanings: sources, planes, register bytes, addresses, what a statement's frame says. The second half is one
`Obligations.<Name> : Prop` per statement.
-/

namespace Sys2Proof.Claims

open Sys2Proof.Machine

/-! ## Command words (R72 to R74): the fields joined by `|` -/

/-- `iw = 0x4A000000 | e<<21 | vt<<16 | vs<<11 | vd<<6 | funct` (R72). -/
def wordV (funct : Nat) (o : V3) : Word :=
  0x4A000000#32 ||| BitVec.ofNat 32 o.e.val <<< 21 ||| BitVec.ofNat 32 o.vt.val <<< 16
    ||| BitVec.ofNat 32 o.vs.val <<< 11 ||| BitVec.ofNat 32 o.vd.val <<< 6 ||| BitVec.ofNat 32 funct

/-- The word of a single-lane instruction: `de` in bits 13:11, any two bits in 15:14 (R72). -/
def wordV1 (funct : Nat) (o : V1) (hi : Fin 4) : Word :=
  wordV funct ⟨o.vd, ⟨8 * hi.val + o.de.val, by omega⟩, o.vt, o.e⟩

/-- `iw = opword | base<<21 | vt<<16 | sub<<11 | e<<7 | (offset & 0x7F)` (R73), the offset given by its seven bits. -/
def wordLS (opword sub : Nat) (base vt : Fin 32) (e : Fin 16) (offset : BitVec 7) : Word :=
  BitVec.ofNat 32 opword ||| BitVec.ofNat 32 base.val <<< 21 ||| BitVec.ofNat 32 vt.val <<< 16
    ||| BitVec.ofNat 32 sub <<< 11 ||| BitVec.ofNat 32 e.val <<< 7 ||| offset.zeroExtend 32

/-- `iw = 0x48000000 | sel<<21 | rt<<16 | rd<<11 | e<<7`, any seven bits in 6:0 (R74). -/
def wordM (sel : Nat) (rt rd : Fin 32) (e : Fin 16) (low : BitVec 7) : Word :=
  0x48000000#32 ||| BitVec.ofNat 32 sel <<< 21 ||| BitVec.ofNat 32 rt.val <<< 16
    ||| BitVec.ofNat 32 rd.val <<< 11 ||| BitVec.ofNat 32 e.val <<< 7 ||| low.zeroExtend 32

/-- Every three-register word of a function code decodes to the instruction with the word's operands. -/
def decodesV (funct : Nat) (i : V3 → Instr) : Prop := ∀ o : V3, decode (wordV funct o) = .ok (i o)

/-- The same of a single-lane function code, whatever bits 15:14 hold. -/
def decodesV1 (funct : Nat) (i : V1 → Instr) : Prop := ∀ (o : V1) (hi : Fin 4), decode (wordV1 funct o hi) = .ok (i o)

/-- The same of an access kind; the offset operand is the field's signed value (R75). -/
def decodesLS (opword sub : Nat) (i : LS → Instr) : Prop :=
  ∀ (base vt : Fin 32) (e : Fin 16) (offset : BitVec 7),
    decode (wordLS opword sub base vt e offset) = .ok (i ⟨base, vt, e, offset.toInt⟩)

/-! ## Reading a state -/

/-- `S[i] = VR[vs][i]` (R100). -/
def S (s : State) (o : V3) (i : LaneIx) : Lane := s.vr[o.vs][i]

/-- `T[i] = VR[vt][SEL[e][i]]` (R100). -/
def T (s : State) (o : V3) (i : LaneIx) : Lane := s.vr[o.vt][s.cfg.sel[o.e][i]]

/-- `T[i]` of a single-lane instruction (R100). -/
def T1 (s : State) (o : V1) (i : LaneIx) : Lane := s.vr[o.vt][s.cfg.sel[o.e][i]]

/-- The input lane of a reciprocal instruction, `VR[vt][e & 7]` (R214). -/
def inputLane (s : State) (o : V1) : Lane := s.vr[o.vt][o.e.val % 8]'(by omega)

/-- `ACC_HI` (R24). -/
def hi (a : AccLane) : Lane := a.extractLsb' 32 16

/-- `ACC_MD` (R24). -/
def md (a : AccLane) : Lane := a.extractLsb' 16 16

/-- `ACC_LO` (R24). -/
def lo (a : AccLane) : Lane := a.extractLsb' 0 16

/-- `sint(A[47:16])`. -/
def upper (a : AccLane) : Int := (a.extractLsb' 16 32).toInt

/-- `VCO.carry[i]` (R27). -/
def carry (s : State) (i : LaneIx) : Bool := s.vco.getLsbD i.val

/-- `VCO.ne[i]` (R27). -/
def notEq (s : State) (i : LaneIx) : Bool := s.vco.getLsbD (8 + i.val)

/-- `VCC.le[i]` (R28). -/
def le (s : State) (i : LaneIx) : Bool := s.vcc.getLsbD i.val

/-- `VCC.ge[i]` (R28). -/
def ge (s : State) (i : LaneIx) : Bool := s.vcc.getLsbD (8 + i.val)

/-- `VCE.ce[i]` (R29). -/
def ce (s : State) (i : LaneIx) : Bool := s.vce.getLsbD i.val

/-- `VRB[r][k]` of a register: byte `2i` the upper byte of lane `i`, byte `2i+1` the lower (R22). -/
def vrb (v : VReg) (k : Fin 16) : Byte :=
  (v[k.val / 2]'(by omega)).extractLsb' (if k.val % 2 = 0 then 8 else 0) 8

/-- `EA = (SDATA_IN + sint(offset) * scale) mod 2^32` (R75, R122). -/
def EA (s : State) (o : LS) (scale : Nat) : Word := BitVec.ofInt 32 ((s.sdataIn.toNat : Int) + o.offset * (scale : Int))

/-- The address `k` bytes on, mod 2^32 (R51). -/
def plus (a : Word) (k : Nat) : Word := a + BitVec.ofNat 32 k

/-- The addresses `a`, `a + 1`, ... of `n` bytes, each mod 2^32 (R51). -/
def span (a : Word) (n : Nat) : List Word := (List.range n).map (plus a)

/-- What the configuration's `BUS` (R18, R53) answers to a transaction of these addresses, in this order: `none` where it
accepts, `some a` where it answers `fault(a)` (R51; log 8). -/
def busAnswer (s : State) (acc : Access) (addrs : List Word) : Option Word := busRefusal s.cfg.bus acc addrs

/-- The two addresses name one byte of memory. -/
def sameByte (s : State) (a b : Word) : Prop := busIndex s.cfg.bus a = busIndex s.cfg.bus b

/-! ## Frames -/

/-- No vector register but `r` changes. -/
def vrOnly (s t : State) (r : Fin 32) : Prop := ∀ q : Fin 32, q ≠ r → t.vr[q] = s.vr[q]

/-- No lane but lane `d` of register `r` changes. -/
def laneOnly (s t : State) (r : Fin 32) (d : LaneIx) : Prop :=
  vrOnly s t r ∧ ∀ j : LaneIx, j ≠ d → t.vr[r][j] = s.vr[r][j]

/-- `ACC_HI` and `ACC_MD` keep their values in every lane (R26). -/
def upperKept (s t : State) : Prop := ∀ i : LaneIx, hi t.acc[i] = hi s.acc[i] ∧ md t.acc[i] = md s.acc[i]

/-- All three planes keep their values. -/
def accKept (s t : State) : Prop := ∀ i : LaneIx, t.acc[i] = s.acc[i]

/-- The three flag registers keep their values. -/
def flagsKept (s t : State) : Prop := t.vco = s.vco ∧ t.vcc = s.vcc ∧ t.vce = s.vce

/-- The three latches keep their values. -/
def latchesKept (s t : State) : Prop := t.divIn = s.divIn ∧ t.divOut = s.divOut ∧ t.dp = s.dp

/-- Every byte of memory reads as before. -/
def memoryKept (s t : State) : Prop := ∀ a : Word, t.readByte a = s.readByte a

/-- The command port's operand, the commands that wait and the configuration keep their values. -/
def inputsKept (s t : State) : Prop := t.sdataIn = s.sdataIn ∧ t.commands = s.commands ∧ t.cfg = s.cfg

/-- No scalar value is returned, none is taken back, and the inputs are as before. -/
def portKept (s t : State) : Prop := inputsKept s t ∧ t.sdataOut = s.sdataOut

/-! ## Results -/

/-- `r = clamp_s16(x)`: the nearest 16-bit signed number (R105). -/
def saturated (x : Int) (r : Lane) : Prop := r.toInt = max (-32768) (min 32767 x)

/-- `r = clamp_signed_mid(a)` (R106). -/
def signedMid (a : AccLane) (r : Lane) : Prop := saturated (upper a) r

/-- `r = clamp_unsigned_mid(a)` (R107). -/
def unsignedMid (a : AccLane) (r : Lane) : Prop :=
  r = if upper a < 0 then 0x0000#16 else if upper a > 0x7FFF then 0xFFFF#16 else md a

/-- `r = clamp_unsigned_low(a)` (R108). -/
def unsignedLow (a : AccLane) (r : Lane) : Prop :=
  r = if upper a < -32768 then 0x0000#16 else if upper a > 32767 then 0xFFFF#16 else lo a

/-- VADD, VSUB: every lane's exact value, wrapped in `ACC_LO`, saturated in `VR[vd]`; `VCO` cleared. -/
def addsSaturating (s t : State) (vd : Fin 32) (x : LaneIx → Int) : Prop :=
  (∀ i : LaneIx, ((lo t.acc[i]).toNat : Int) = x i % 2 ^ 16 ∧ saturated (x i) t.vr[vd][i]) ∧ t.vco = 0#16
    ∧ t.vcc = s.vcc ∧ t.vce = s.vce ∧ upperKept s t ∧ vrOnly s t vd ∧ latchesKept s t ∧ memoryKept s t ∧ portKept s t

/-- VADDC, VSUBC: every lane's exact value, wrapped in `ACC_LO` and `VR[vd]`; `VCO` written. -/
def addsWrapping (s t : State) (vd : Fin 32) (x : LaneIx → Int) (c n : LaneIx → Prop) : Prop :=
  (∀ i : LaneIx, ((lo t.acc[i]).toNat : Int) = x i % 2 ^ 16 ∧ ((t.vr[vd][i]).toNat : Int) = x i % 2 ^ 16
      ∧ (carry t i = true ↔ c i) ∧ (notEq t i = true ↔ n i))
    ∧ t.vcc = s.vcc ∧ t.vce = s.vce ∧ upperKept s t ∧ vrOnly s t vd ∧ latchesKept s t ∧ memoryKept s t ∧ portKept s t

/-- A logical instruction: the lane results in `VR[vd]`, and in `ACC_LO` exactly when `LOGICAL_ACC_LO` says so (R160). -/
def logicalTo (s t : State) (o : V3) (r : LaneIx → Lane) : Prop :=
  (∀ i : LaneIx, t.vr[o.vd][i] = r i) ∧ (s.cfg.logicalAccLo = false → accKept s t)
    ∧ (s.cfg.logicalAccLo = true → upperKept s t ∧ ∀ i : LaneIx, lo t.acc[i] = r i)
    ∧ vrOnly s t o.vd ∧ flagsKept s t ∧ latchesKept s t ∧ memoryKept s t ∧ portKept s t

/-- A multiply: every lane's exact value mod 2^48 in `ACC`, its clamp in `VR[vd]` (R171). -/
def multiplies (s t : State) (o : V3) (value : LaneIx → Int) (clamp : AccLane → Lane → Prop) : Prop :=
  (∀ i : LaneIx, (t.acc[i].toNat : Int) = value i % 2 ^ 48 ∧ clamp t.acc[i] t.vr[o.vd][i])
    ∧ vrOnly s t o.vd ∧ flagsKept s t ∧ latchesKept s t ∧ memoryKept s t ∧ portKept s t

/-- A compare's selected lanes in `VR[vd]` and `ACC_LO`, and what no compare changes (R190). -/
def selects (s t : State) (o : V3) (r : LaneIx → Lane) : Prop :=
  (∀ i : LaneIx, t.vr[o.vd][i] = r i ∧ lo t.acc[i] = r i)
    ∧ upperKept s t ∧ vrOnly s t o.vd ∧ latchesKept s t ∧ memoryKept s t ∧ portKept s t

/-- A select compare: the masked lane, `VCC.le` the mask, `VCC.ge` and `VCO` cleared, `VCE` kept (R191 to R194). -/
def selectCompares (s t : State) (o : V3) (mask : LaneIx → Prop) : Prop :=
  selects s t o (fun i => t.vr[o.vd][i])
    ∧ (∀ i : LaneIx, (mask i → t.vr[o.vd][i] = S s o i) ∧ (¬mask i → t.vr[o.vd][i] = T s o i)
        ∧ (le t i = true ↔ mask i) ∧ ge t i = false)
    ∧ t.vco = 0#16 ∧ t.vce = s.vce

/-- A single-lane instruction: one lane of `VR[vd]`, all of `ACC_LO` the selected operand (R203, R214). -/
def movesLane (s t : State) (o : V1) (x : Lane) : Prop :=
  t.vr[o.vd][o.de] = x ∧ (∀ i : LaneIx, lo t.acc[i] = T1 s o i) ∧ upperKept s t ∧ laneOnly s t o.vd o.de
    ∧ flagsKept s t ∧ memoryKept s t ∧ portKept s t

/-- A result-producing reciprocal instruction on the 32-bit input `x` (R216, R217). -/
def producesResult (s t : State) (o : V1) (rsq : Bool) (x : Word) : Prop :=
  movesLane s t o ((rcpCore s.cfg x rsq).extractLsb' 0 16) ∧ t.divOut = (rcpCore s.cfg x rsq).extractLsb' 16 16
    ∧ t.dp = false ∧ t.divIn = s.divIn

/-- A load of `n` bytes from `a` on, into the register's bytes from `start` on: it makes one transaction of those bytes, with
the bus's acceptance it completes, and the bus's fault ends it with the address reported, one of the transaction's (R51,
R241). -/
def loadsBytes (s : State) (i : Instr) (vt : Fin 32) (start n : Nat) (a : Word) : Prop :=
  (busAnswer s .read (span a n) = none → ∃ t, exec i s = .next t
    ∧ (∀ k : Fin 16, vrb t.vr[vt] k =
        if start ≤ k.val ∧ k.val < start + n then s.readByte (plus a (k.val - start)) else vrb s.vr[vt] k)
    ∧ vrOnly s t vt ∧ accKept s t ∧ flagsKept s t ∧ latchesKept s t ∧ memoryKept s t ∧ portKept s t)
  ∧ ∀ f : Word, busAnswer s .read (span a n) = some f → exec i s = .fault (.busFault f) ∧ f ∈ span a n

/-- A load of one byte per lane in one transaction: byte `i` comes from address `a i`, and the lane is `lane` of it. -/
def loadsLanes (s : State) (i : Instr) (vt : Fin 32) (a : Nat → Word) (lane : Byte → Lane) : Prop :=
  (busAnswer s .read ((List.range 8).map a) = none → ∃ t, exec i s = .next t
    ∧ (∀ j : LaneIx, t.vr[vt][j] = lane (s.readByte (a j.val)))
    ∧ vrOnly s t vt ∧ accKept s t ∧ flagsKept s t ∧ latchesKept s t ∧ memoryKept s t ∧ portKept s t)
  ∧ ∀ f : Word, busAnswer s .read ((List.range 8).map a) = some f →
      exec i s = .fault (.busFault f) ∧ f ∈ (List.range 8).map a

/-- A store of `n` bytes from `a` on, in one transaction: with the bus's acceptance it completes, every byte that is none of
the `n` reads as before, and nothing of the block changes; the bus's fault ends it with the address reported. -/
def storesBytes (s : State) (i : Instr) (n : Nat) (a : Word) (byte : Nat → Byte) : Prop :=
  (busAnswer s .write (span a n) = none → ∃ t, exec i s = .next t
    ∧ (∀ k < n, t.readByte (plus a k) = byte k)
    ∧ (∀ b : Word, (∀ k < n, ¬sameByte s b (plus a k)) → t.readByte b = s.readByte b)
    ∧ t.vr = s.vr ∧ accKept s t ∧ flagsKept s t ∧ latchesKept s t ∧ portKept s t)
  ∧ ∀ f : Word, busAnswer s .write (span a n) = some f → exec i s = .fault (.busFault f) ∧ f ∈ span a n

/-! ## Lists of instructions -/

/-- The sixteen loads and stores (R50, R241). -/
def isLS : Instr → Bool
  | .lbv _ | .lsv _ | .llv _ | .ldv _ | .lqv _ | .lrv _ | .lpv _ | .luv _
  | .sbv _ | .ssv _ | .slv _ | .sdv _ | .sqv _ | .srv _ | .spv _ | .suv _ => true
  | _ => false

/-- The eight stores. -/
def isStore : Instr → Bool
  | .sbv _ | .ssv _ | .slv _ | .sdv _ | .sqv _ | .srv _ | .spv _ | .suv _ => true
  | _ => false

/-- "`VCO`: VADD, VSUB (clear), VADDC, VSUBC (set), VLT, VEQ, VNE, VGE, VCL, VCR (clear), VCH (set), CTC2 0" (R265). -/
def writesVco : Instr → Bool
  | .vadd _ | .vsub _ | .vaddc _ | .vsubc _ | .vlt _ | .veq _ | .vne _ | .vge _ | .vcl _ | .vcr _ | .vch _ => true
  | .ctc2 o => o.c.val = 0
  | _ => false

/-- The writers of `VCO` that clear it (R265). -/
def clearsVco : Instr → Bool
  | .vadd _ | .vsub _ | .vlt _ | .veq _ | .vne _ | .vge _ | .vcl _ | .vcr _ => true
  | _ => false

/-- "`VCC`: VLT, VEQ, VNE, VGE, VCH, VCL, VCR, CTC2 1" (R265). -/
def writesVcc : Instr → Bool
  | .vlt _ | .veq _ | .vne _ | .vge _ | .vch _ | .vcl _ | .vcr _ => true
  | .ctc2 o => o.c.val = 1
  | _ => false

/-- "`VCE`: VCH (set), VCL, VCR (clear), CTC2 2/3" (R265). -/
def writesVce : Instr → Bool
  | .vch _ | .vcl _ | .vcr _ => true
  | .ctc2 o => 2 ≤ o.c.val
  | _ => false

/-- The writers of `VCE` that clear it (R265). -/
def clearsVce : Instr → Bool
  | .vcl _ | .vcr _ => true
  | _ => false

/-- "Readers: `VCO`: VADD, VSUB, VLT, VEQ, VNE, VGE, VCL, CFC2 0" (R265). -/
def readsVco : Instr → Bool
  | .vadd _ | .vsub _ | .vlt _ | .veq _ | .vne _ | .vge _ | .vcl _ => true
  | .cfc2 o => o.c.val = 0
  | _ => false

/-- "`VCC`: VMRG, VCL, CFC2 1" (R265). -/
def readsVcc : Instr → Bool
  | .vmrg _ | .vcl _ => true
  | .cfc2 o => o.c.val = 1
  | _ => false

/-- "`VCE`: VCL, CFC2 2/3" (R265). -/
def readsVce : Instr → Bool
  | .vcl _ => true
  | .cfc2 o => 2 ≤ o.c.val
  | _ => false

/-- "Writers of all three planes: the twelve multiply instructions" (R267). -/
def writesAcc : Instr → Bool
  | .vmulf _ | .vmulu _ | .vmudl _ | .vmudm _ | .vmudn _ | .vmudh _
  | .vmacf _ | .vmacu _ | .vmadl _ | .vmadm _ | .vmadn _ | .vmadh _ => true
  | _ => false

/-- The six logical instructions. -/
def isLogical : Instr → Bool
  | .vand _ | .vnand _ | .vor _ | .vnor _ | .vxor _ | .vnxor _ => true
  | _ => false

/-- "Writers of `ACC_LO` only: VADD, VSUB, VADDC, VSUBC, VABS, the seven compares, VMRG, VMOV, the six reciprocal
instructions" (R267); the logical instructions are `isLogical`. -/
def writesAccLo : Instr → Bool
  | .vadd _ | .vsub _ | .vaddc _ | .vsubc _ | .vabs _
  | .vlt _ | .veq _ | .vne _ | .vge _ | .vcl _ | .vch _ | .vcr _ | .vmrg _ | .vmov _
  | .vrcp _ | .vrcpl _ | .vrcph _ | .vrsq _ | .vrsql _ | .vrsqh _ => true
  | _ => false

/-- VRCP, VRSQ, VRCPL, VRSQL. -/
def isRecipResult : Instr → Bool
  | .vrcp _ | .vrsq _ | .vrcpl _ | .vrsql _ => true
  | _ => false

/-- VRCPH, VRSQH. -/
def isRecipHigh : Instr → Bool
  | .vrcph _ | .vrsqh _ => true
  | _ => false

/-- The vector register an instruction writes, if any (R23). -/
def destination : Instr → Option (Fin 32)
  | .vmulf o | .vmulu o | .vmudl o | .vmudm o | .vmudn o | .vmudh o
  | .vmacf o | .vmacu o | .vmadl o | .vmadm o | .vmadn o | .vmadh o
  | .vadd o | .vsub o | .vabs o | .vaddc o | .vsubc o
  | .vlt o | .veq o | .vne o | .vge o | .vcl o | .vch o | .vcr o | .vmrg o
  | .vand o | .vnand o | .vor o | .vnor o | .vxor o | .vnxor o => some o.vd
  | .vsar o => some o.vd
  | .vrcp o | .vrcpl o | .vrcph o | .vmov o | .vrsq o | .vrsql o | .vrsqh o => some o.vd
  | .lbv o | .lsv o | .llv o | .ldv o | .lqv o | .lrv o | .lpv o | .luv o => some o.vt
  | .mtc2 o => some o.rd
  | _ => none

/-- The one lane that VMOV, VRCP, VRCPL, VRCPH, VRSQ, VRSQL, VRSQH write (R23). -/
def destinationLane : Instr → Option LaneIx
  | .vrcp o | .vrcpl o | .vrcph o | .vmov o | .vrsq o | .vrsql o | .vrsqh o => some o.de
  | _ => none

/-- The operands of an instruction that computes every lane from two sources. -/
def laneWise : Instr → Option V3
  | .vmulf o | .vmulu o | .vmudl o | .vmudm o | .vmudn o | .vmudh o
  | .vmacf o | .vmacu o | .vmadl o | .vmadm o | .vmadn o | .vmadh o
  | .vadd o | .vsub o | .vabs o | .vaddc o | .vsubc o
  | .vlt o | .veq o | .vne o | .vge o | .vcl o | .vch o | .vcr o | .vmrg o
  | .vand o | .vnand o | .vor o | .vnor o | .vxor o | .vnxor o => some o
  | _ => none

/-- The bits of an instruction's word that decoding ignores (R72, R74, R204, R205, R206, R232). -/
def ignoredBits : Instr → Word
  | .vrcp _ | .vrcpl _ | .vrcph _ | .vmov _ | .vrsq _ | .vrsql _ | .vrsqh _ => 0x0000C000#32
  | .vsar _ => 0x001FF800#32
  | .vnop | .vnull => 0x01FFFFC0#32
  | .mfc2 _ | .mtc2 _ => 0x0000007F#32
  | .cfc2 _ | .ctc2 _ => 0x0000E7FF#32
  | _ => 0x00000000#32

/-- The function codes that R76 marks refused. -/
def refusedFunct : List Nat :=
  [0x02, 0x03, 0x0A, 0x0B, 0x12, 0x16, 0x17, 0x18, 0x19, 0x1A, 0x1B, 0x1C, 0x1E, 0x1F, 0x2E, 0x2F,
   0x38, 0x39, 0x3A, 0x3B, 0x3C, 0x3D, 0x3E]

/-- An outcome with its next state changed. -/
def onNext (f : State → State) (r : Host.Outcome State Fault Refusal) : Host.Outcome State Fault Refusal :=
  match r with
  | .next t => .next (f t)
  | .fault a => .fault a
  | .refused a => .refused a

/-! ## CRC-32 (IEEE), of R212 and R213 -/

/-- One bit of the reflected CRC-32. -/
def crcBit (c : Nat) : Nat := if c % 2 = 1 then (c / 2) ^^^ 0xEDB88320 else c / 2

/-- One byte. -/
def crcByte (c b : Nat) : Nat := crcBit (crcBit (crcBit (crcBit (crcBit (crcBit (crcBit (crcBit (c ^^^ b))))))))

/-- The CRC-32 of 16-bit entries, each high byte first. -/
def crc32 (l : List Nat) : Nat :=
  l.foldl (fun c x => crcByte (crcByte c (x / 256)) (x % 256)) 0xFFFFFFFF ^^^ 0xFFFFFFFF

/-- The entries of a table, as numbers. -/
def entries (v : Vector Lane 512) : List Nat := v.toList.map BitVec.toNat

end Sys2Proof.Claims

open Sys2Proof Sys2Proof.Machine Sys2Proof.Claims

/-! ## Words, decoding, the step -/

/-- R92: the eight worked encodings decode to the instructions they are written for. -/
def Obligations.WorkedEncodingsDecode : Prop :=
  decode 0x4A0208D0#32 = .ok (.vadd ⟨3, 1, 2, 0⟩) ∧ decode 0x4B262900#32 = .ok (.vmulf ⟨4, 5, 6, 9⟩)
    ∧ decode 0x4B4819F0#32 = .ok (.vrcp ⟨7, 3, 8, 10⟩) ∧ decode 0xC8012001#32 = .ok (.lqv ⟨0, 1, 0, 1⟩)
    ∧ decode 0xE8021C7F#32 = .ok (.sdv ⟨0, 2, 8, -1⟩) ∧ decode 0x48400800#32 = .ok (.cfc2 ⟨0, 1⟩)
    ∧ decode 0x48C00000#32 = .ok (.ctc2 ⟨0, 0⟩) ∧ decode 0x48802B00#32 = .ok (.mtc2 ⟨0, 5, 6⟩)

/-- R70 in the model's own terms: a step takes the first command presented, puts its operand on `SDATA_IN`, takes back the
last scalar result, and is `exec` of the instruction its word spells; a word that spells none is refused (R244); with none
presented nothing happens. The queue of commands, the idle step, `SDATA_OUT` as an option and the refusal as an outcome are
the model's (log 1, 2, 3, 10). -/
def Obligations.StepRunsThePresentedCommand : Prop :=
  (∀ (s : State) (c : Command) (rest : List Command) (i : Instr), s.commands = c :: rest → decode c.iw = .ok i →
      step s = exec i { s with sdataIn := c.sdata, sdataOut := none, commands := rest })
    ∧ (∀ (s : State) (w : Word) (i : Instr), decode w = .ok i →
        step (s.withFetchWord 32 w.toNat) = exec i { s with sdataOut := none })
    ∧ (∀ (s : State) (c : Command) (rest : List Command) (why : Undecodable), s.commands = c :: rest →
        decode c.iw = .error why → step s = .refused (.undecodable why c.iw))
    ∧ (∀ s : State, s.commands = [] → step s = .next s)

/-- Every field at reset: idle, nothing presented (R260), and the recommended configuration (R18): its tables are those of
`SelectionTableClosedForm`, `ReciprocalTableValues` and `SquareRootTableValues`, `ABS_MIN_WRAPS` is true, `LOGICAL_ACC_LO`
false, and the bus has 4096 bytes, takes every address mod 4096 and refuses nothing. The spec leaves every bit of the block
unspecified (R40): the zeros are the model's choice (log 4), as are the memory's (log 5), and `VCE_READ_SEXT` is open
(log 7). -/
def Obligations.ResetStateIsIdleAndZero : Prop :=
  (∀ (r : Fin 32) (i : LaneIx), State.reset.vr[r][i] = 0#16) ∧ (∀ i : LaneIx, State.reset.acc[i] = 0#48)
    ∧ State.reset.vco = 0#16 ∧ State.reset.vcc = 0#16 ∧ State.reset.vce = 0#8
    ∧ State.reset.divIn = 0#16 ∧ State.reset.divOut = 0#16 ∧ State.reset.dp = false
    ∧ (∀ a : Word, State.reset.readByte a = 0#8) ∧ State.reset.commands = [] ∧ State.reset.sdataOut = none
    ∧ State.reset.cfg = Config.recommended
    ∧ State.reset.cfg.absMinWraps = true ∧ State.reset.cfg.logicalAccLo = false
    ∧ State.reset.cfg.vceReadSext = Config.vceReadSextOpen
    ∧ State.reset.cfg.bus.size = 4096 ∧ State.reset.cfg.bus.places = [] ∧ State.reset.cfg.bus.readRefused = []
    ∧ State.reset.cfg.bus.writeRefused = [] ∧ State.reset.cfg.bus.answers = []
    ∧ (∀ a b : Word, sameByte State.reset a b ↔ a.toNat % 4096 = b.toNat % 4096)
    ∧ (∀ (acc : Access) (addrs : List Word), busAnswer State.reset acc addrs = none)
    ∧ step State.reset = .next State.reset

/-- The invariant of `StepKeepsTheInvariant` holds at reset. -/
def Obligations.ResetMeetsTheInvariant : Prop := State.reset.Inv

/-- R101: the recommended `SEL` in closed form; rows 0 and 1 are the identity, rows 8 to 15 are broadcasts of one lane. -/
def Obligations.SelectionTableClosedForm : Prop :=
  ∀ (e : Fin 16) (i : LaneIx),
    (Config.recommended.sel[e][i]).val =
      (if e.val ≤ 1 then i.val
       else if e.val ≤ 3 then (i.val &&& 6) ||| (e.val &&& 1)
       else if e.val ≤ 7 then (i.val &&& 4) ||| (e.val &&& 3)
       else e.val &&& 7)

/-- R212: every entry of the recommended `RCP_ROM` by the rule's formula, and its three check values. -/
def Obligations.ReciprocalTableValues : Prop :=
  (Config.recommended.rcpRom[(0 : Fin 512)]).toNat = 0xFFFF
    ∧ (∀ i : Fin 512, i ≠ 0 →
        (Config.recommended.rcpRom[i]).toNat = ((2 ^ 34 / (i.val + 512) + 1) >>> 8) &&& 0xFFFF)
    ∧ (entries Config.recommended.rcpRom).sum = 12994429
    ∧ (entries Config.recommended.rcpRom).foldl (· ^^^ ·) 0 = 0xF9A3
    ∧ crc32 (entries Config.recommended.rcpRom) = 0x2E3FE165

/-- R213: every entry of the recommended `RSQ_ROM` by the rule's formula (the smallest `b` of the rule), and its three check
values. -/
def Obligations.SquareRootTableValues : Prop :=
  (∀ i : Fin 512, ∃ b : Nat, 2 ^ 17 ≤ b
      ∧ (if i.val % 2 = 1 then (i.val + 512) / 2 else i.val + 512) * (b + 1) ^ 2 ≥ 2 ^ 44
      ∧ (∀ c : Nat, 2 ^ 17 ≤ c → (if i.val % 2 = 1 then (i.val + 512) / 2 else i.val + 512) * (c + 1) ^ 2 ≥ 2 ^ 44 → b ≤ c)
      ∧ (Config.recommended.rsqRom[i]).toNat = (b >>> 1) &&& 0xFFFF)
    ∧ (entries Config.recommended.rsqRom).sum = 13931234
    ∧ (entries Config.recommended.rsqRom).foldl (· ^^^ ·) 0 = 0x639C
    ∧ crc32 (entries Config.recommended.rsqRom) = 0xF01ADE0A

/-- Decoding the encoding of a well-formed instruction gives it back, every instruction, every operand (R72 to R78). -/
def Obligations.DecodeInvertsEncode : Prop := ∀ i : Instr, i.wf = true → decode (encode i) = .ok i

/-- A word decodes to an instruction exactly when the instruction is well formed and the word is its encoding, the bits the
spec calls ignored aside: no bit is dropped, none is invented (R72 to R74, R86, R204, R232). -/
def Obligations.DecodeAcceptsExactlyTheEncodings : Prop :=
  ∀ (w : Word) (i : Instr), decode w = .ok i ↔ i.wf = true ∧ w &&& ~~~(ignoredBits i) = encode i

/-- R79 and R86: a word decodes exactly when it is of a row of the opcode table, of two rows it never is, and the words that
do not decode are those that R86 lists, by the reason. -/
def Obligations.EveryWordIsOneRowOrRefused : Prop :=
  (∀ w : Word, (∃ i, decode w = .ok i) ↔ ∃ r ∈ opcodeRows, w &&& r.mask = r.pattern)
    ∧ (∀ (w : Word) (q r : OpcodeRow), q ∈ opcodeRows → r ∈ opcodeRows →
        w &&& q.mask = q.pattern → w &&& r.mask = r.pattern → q = r)
    ∧ (∀ w : Word,
        (decode w = .error .badOp ↔ w.toNat / 2 ^ 26 ≠ 0x12 ∧ w.toNat / 2 ^ 26 ≠ 0x32 ∧ w.toNat / 2 ^ 26 ≠ 0x3A)
        ∧ (decode w = .error .badFunct ↔ w.toNat / 2 ^ 25 = 0x25 ∧ w.toNat % 64 ∈ refusedFunct)
        ∧ (decode w = .error .badSub ↔
            (w.toNat / 2 ^ 26 = 0x32 ∨ w.toNat / 2 ^ 26 = 0x3A) ∧ 8 ≤ w.toNat / 2 ^ 11 % 32)
        ∧ (decode w = .error .badSel ↔
            w.toNat / 2 ^ 25 = 0x24 ∧ w.toNat / 2 ^ 21 % 16 ∉ ([0, 2, 4, 6] : List Nat)))

/-! ## The whole machine -/

/-- Every step keeps the memory canonical and all its listed bytes bytes that the bus has, and the bus able to tell sixteen
neighbouring addresses apart. -/
def Obligations.StepKeepsTheInvariant : Prop :=
  ∀ s t : State, s.Inv → step s = .next t → t.Inv

/-- R240: a format V or format M instruction always completes; a load or store completes or ends in the bus's fault of a
transaction of up to sixteen bytes, one of which is at the address reported; neither is ever refused. -/
def Obligations.OutcomeOfEveryInstruction : Prop :=
  ∀ (i : Instr) (s : State),
    (isLS i = false → ∃ t, exec i s = .next t)
    ∧ (isLS i = true → (∃ t, exec i s = .next t) ∨ ∃ a : Word, exec i s = .fault (.busFault a)
        ∧ ∃ addrs : List Word, addrs.length ≤ 16 ∧ a ∈ addrs
          ∧ busAnswer s (if isStore i then .write else .read) addrs = some a)

/-- R53: with the recommended bus an address counts mod 4096 and nothing faults: every instruction completes in every
state. -/
def Obligations.NothingFaultsOnTheRecommendedBus : Prop :=
  ∀ s : State, s.cfg.bus = Bus.recommended →
    (∀ i : Instr, ∃ t, exec i s = .next t)
    ∧ (∀ a b : Word, a.toNat % 4096 = b.toNat % 4096 → s.readByte a = s.readByte b)

/-- R16 and R190: no lane depends on another. Two states that agree on one lane's sources, accumulator and flag bits agree on
that lane's result, accumulator and flag bits after every instruction that computes all eight lanes. -/
def Obligations.LanesAreIndependent : Prop :=
  ∀ (i : Instr) (o : V3), laneWise i = some o → ∀ (s u : State) (k : LaneIx), s.cfg = u.cfg →
    S s o k = S u o k → T s o k = T u o k → s.acc[k] = u.acc[k] →
    carry s k = carry u k → notEq s k = notEq u k → le s k = le u k → ge s k = ge u k → ce s k = ce u k →
    ∃ t v, exec i s = .next t ∧ exec i u = .next v ∧ t.vr[o.vd][k] = v.vr[o.vd][k] ∧ t.acc[k] = v.acc[k]
      ∧ carry t k = carry v k ∧ notEq t k = notEq v k ∧ le t k = le v k ∧ ge t k = ge v k ∧ ce t k = ce v k

/-- R265, the writers: a flag register changes only under an instruction of its list, and those said to clear it leave it
zero. -/
def Obligations.OnlyTheListedInstructionsWriteAFlag : Prop :=
  ∀ (i : Instr) (s t : State), exec i s = .next t →
    (writesVco i = false → t.vco = s.vco) ∧ (clearsVco i = true → t.vco = 0#16)
    ∧ (writesVcc i = false → t.vcc = s.vcc)
    ∧ (writesVce i = false → t.vce = s.vce) ∧ (clearsVce i = true → t.vce = 0#8)

/-- R265, the readers: an instruction that is not on a flag register's list does the same whatever the register holds. -/
def Obligations.OnlyTheListedInstructionsReadAFlag : Prop :=
  ∀ (i : Instr) (s : State),
    (readsVco i = false → ∀ v : BitVec 16,
      exec i { s with vco := v } = onNext (fun t => if writesVco i then t else { t with vco := v }) (exec i s))
    ∧ (readsVcc i = false → ∀ v : BitVec 16,
      exec i { s with vcc := v } = onNext (fun t => if writesVcc i then t else { t with vcc := v }) (exec i s))
    ∧ (readsVce i = false → ∀ v : BitVec 8,
      exec i { s with vce := v } = onNext (fun t => if writesVce i then t else { t with vce := v }) (exec i s))

/-- R267: only the twelve multiplies write the upper planes; only they, the listed writers of `ACC_LO`, and the logical
instructions when `LOGICAL_ACC_LO` is true, write the accumulator at all. -/
def Obligations.OnlyTheListedInstructionsWriteTheAccumulator : Prop :=
  ∀ (i : Instr) (s t : State), exec i s = .next t →
    (writesAcc i = false → upperKept s t)
    ∧ (writesAcc i = false → writesAccLo i = false → (isLogical i = false ∨ s.cfg.logicalAccLo = false) → accKept s t)

/-- R266: the latches change only under the reciprocal instructions, each latch only under those that are said to change it,
and `DP` follows the instruction. -/
def Obligations.OnlyTheReciprocalInstructionsChangeTheLatches : Prop :=
  ∀ (i : Instr) (s t : State), exec i s = .next t →
    (isRecipHigh i = false → t.divIn = s.divIn) ∧ (isRecipResult i = false → t.divOut = s.divOut)
    ∧ t.dp = (if isRecipResult i then false else if isRecipHigh i then true else s.dp)

/-- R23: an instruction changes no vector register but its destination, and the seven single-lane instructions no lane but
theirs. -/
def Obligations.OnlyTheDestinationRegisterChanges : Prop :=
  ∀ (i : Instr) (s t : State), exec i s = .next t →
    (∀ q : Fin 32, destination i ≠ some q → t.vr[q] = s.vr[q])
    ∧ (∀ (r : Fin 32) (d j : LaneIx), destination i = some r → destinationLane i = some d → j ≠ d →
        t.vr[r][j] = s.vr[r][j])

/-- R34, R62, R71, R140: only a store changes memory, and it changes nothing of the block; only MFC2 and CFC2 return a scalar
value; no instruction changes the operand, the waiting commands or the configuration. That a load leaves memory unchanged is
R62's for what the block does; that the bus's read has no side effect, which R53 leaves to `BUS`, is the model's (log 8). -/
def Obligations.OnlyStoresChangeMemoryOnlyMovesReturnAScalar : Prop :=
  ∀ (i : Instr) (s t : State), exec i s = .next t →
    (isStore i = false → t.mem = s.mem)
    ∧ (isStore i = true → t.vr = s.vr ∧ accKept s t ∧ flagsKept s t ∧ latchesKept s t)
    ∧ ((∀ o, i ≠ .mfc2 o) → (∀ o, i ≠ .cfc2 o) → t.sdataOut = s.sdataOut)
    ∧ inputsKept s t

/-! ## Clamps and flag forms -/

/-- R105, R107 to R109, and R106's formula: what each clamp gives, and that clamping the accumulator reloaded with a clamp's
result gives the result again. Of R106's remark "the result equals `A[31:16]` exactly when `A[47:31]` are all equal" one
direction is stated; the other is not true of the rule's own formula (log 19). -/
def Obligations.ClampsSaturateAndAreIdempotent : Prop :=
  (∀ x : Int, saturated x (clampS16 x) ∧ clampS16 (clampS16 x).toInt = clampS16 x)
    ∧ (∀ a : AccLane,
      signedMid a (clampSignedMid a) ∧ unsignedMid a (clampUnsignedMid a) ∧ unsignedLow a (clampUnsignedLow a)
      ∧ ((∀ k : Fin 17, a.getLsbD (31 + k.val) = a.getLsbD 47) → clampSignedMid a = md a)
      ∧ clampSignedMid ((clampSignedMid a).signExtend 32 ++ 0#16) = clampSignedMid a
      ∧ clampUnsignedMid ((clampUnsignedMid a).zeroExtend 32 ++ 0#16) = clampUnsignedMid a
      ∧ clampUnsignedLow (0#32 ++ clampUnsignedLow a) = clampUnsignedLow a)

/-- R30 and R31: the lane-mask form of a half and its packed form are each other's inverse; bit `k` is lane `k`. -/
def Obligations.FlagFormsRoundTrip : Prop :=
  (∀ (h : BitVec 8) (i : LaneIx), (laneMask h)[i] = (if h.getLsbD i.val then 0xFFFF#16 else 0x0000#16))
    ∧ (∀ (m : VReg) (i : LaneIx), (packMask m).getLsbD i.val = decide (m[i] ≠ 0x0000#16))
    ∧ (∀ h : BitVec 8, packMask (laneMask h) = h)
    ∧ (∀ m : VReg, (∀ i : LaneIx, m[i] = 0x0000#16 ∨ m[i] = 0xFFFF#16) → laneMask (packMask m) = m)

/-! ## Add and subtract -/

/-- R151, R152: VADD and VSUB. -/
def Obligations.VaddVsubResult : Prop :=
  decodesV 0x10 .vadd ∧ decodesV 0x11 .vsub ∧ ∀ (s : State) (o : V3),
    (∃ t, exec (.vadd o) s = .next t ∧ addsSaturating s t o.vd fun i =>
      (S s o i).toInt + (T s o i).toInt + ((carry s i).toNat : Int))
    ∧ (∃ t, exec (.vsub o) s = .next t ∧ addsSaturating s t o.vd fun i =>
      (S s o i).toInt - (T s o i).toInt - ((carry s i).toNat : Int))

/-- R153, R154: VADDC and VSUBC. -/
def Obligations.VaddcVsubcResult : Prop :=
  decodesV 0x14 .vaddc ∧ decodesV 0x15 .vsubc ∧ ∀ (s : State) (o : V3),
    (∃ t, exec (.vaddc o) s = .next t ∧ addsWrapping s t o.vd
      (fun i => ((S s o i).toNat : Int) + ((T s o i).toNat : Int))
      (fun i => (S s o i).toNat + (T s o i).toNat ≥ 2 ^ 16) (fun _ => False))
    ∧ (∃ t, exec (.vsubc o) s = .next t ∧ addsWrapping s t o.vd
      (fun i => ((S s o i).toNat : Int) - ((T s o i).toNat : Int))
      (fun i => ((S s o i).toNat : Int) - ((T s o i).toNat : Int) < 0)
      (fun i => ((S s o i).toNat : Int) - ((T s o i).toNat : Int) ≠ 0))

/-- R265's double-width pairs: VADDC on the low halves then VADD on the high halves is 32-bit addition, wrapped in `ACC_LO`
and saturated in the high destination; VSUBC then VSUB is 32-bit subtraction. -/
def Obligations.DoubleWidthAddAndSubtract : Prop :=
  ∀ (s : State) (l h : V3), l.vd ≠ h.vs → l.vd ≠ h.vt →
    (∃ t u, exec (.vaddc l) s = .next t ∧ exec (.vadd h) t = .next u ∧ ∀ i : LaneIx,
      (lo u.acc[i] ++ t.vr[l.vd][i] : Word) = (S s h i ++ S s l i) + (T s h i ++ T s l i)
      ∧ (-2 ^ 31 ≤ (S s h i ++ S s l i : Word).toInt + (T s h i ++ T s l i : Word).toInt →
          (S s h i ++ S s l i : Word).toInt + (T s h i ++ T s l i : Word).toInt < 2 ^ 31 →
          u.vr[h.vd][i] = lo u.acc[i]))
    ∧ (∃ t u, exec (.vsubc l) s = .next t ∧ exec (.vsub h) t = .next u ∧ ∀ i : LaneIx,
      (lo u.acc[i] ++ t.vr[l.vd][i] : Word) = (S s h i ++ S s l i) - (T s h i ++ T s l i)
      ∧ (-2 ^ 31 ≤ (S s h i ++ S s l i : Word).toInt - (T s h i ++ T s l i : Word).toInt →
          (S s h i ++ S s l i : Word).toInt - (T s h i ++ T s l i : Word).toInt < 2 ^ 31 →
          u.vr[h.vd][i] = lo u.acc[i]))

/-! ## Logical -/

/-- R160 to R166: the six logical instructions. -/
def Obligations.LogicalResult : Prop :=
  decodesV 0x28 .vand ∧ decodesV 0x29 .vnand ∧ decodesV 0x2A .vor ∧ decodesV 0x2B .vnor
    ∧ decodesV 0x2C .vxor ∧ decodesV 0x2D .vnxor ∧ ∀ (s : State) (o : V3),
    (∃ t, exec (.vand o) s = .next t ∧ logicalTo s t o fun i => S s o i &&& T s o i)
    ∧ (∃ t, exec (.vnand o) s = .next t ∧ logicalTo s t o fun i => ~~~(S s o i &&& T s o i))
    ∧ (∃ t, exec (.vor o) s = .next t ∧ logicalTo s t o fun i => S s o i ||| T s o i)
    ∧ (∃ t, exec (.vnor o) s = .next t ∧ logicalTo s t o fun i => ~~~(S s o i ||| T s o i))
    ∧ (∃ t, exec (.vxor o) s = .next t ∧ logicalTo s t o fun i => S s o i ^^^ T s o i)
    ∧ (∃ t, exec (.vnxor o) s = .next t ∧ logicalTo s t o fun i => ~~~(S s o i ^^^ T s o i))

/-! ## Multiply -/

/-- R172, R173: VMULF and VMULU, with the rules' corner cases: VMULF's clamp acts for one pair only, a negative product
gives zero under VMULU. -/
def Obligations.VmulfVmuluResult : Prop :=
  decodesV 0x00 .vmulf ∧ decodesV 0x01 .vmulu ∧ ∀ (s : State) (o : V3),
    (∃ t, exec (.vmulf o) s = .next t
      ∧ multiplies s t o (fun i => 2 * ((S s o i).toInt * (T s o i).toInt) + 0x8000) signedMid
      ∧ ∀ i : LaneIx, if S s o i = 0x8000#16 ∧ T s o i = 0x8000#16 then t.vr[o.vd][i] = 0x7FFF#16
          else t.vr[o.vd][i] = md t.acc[i])
    ∧ (∃ t, exec (.vmulu o) s = .next t
      ∧ multiplies s t o (fun i => 2 * ((S s o i).toInt * (T s o i).toInt) + 0x8000) unsignedMid
      ∧ ∀ i : LaneIx, (S s o i).toInt * (T s o i).toInt < 0 → t.vr[o.vd][i] = 0x0000#16)

/-- R174 to R177: VMUDL, VMUDM, VMUDN, VMUDH, with the rules' corner cases: the first three never clamp. -/
def Obligations.VmudResult : Prop :=
  decodesV 0x04 .vmudl ∧ decodesV 0x05 .vmudm ∧ decodesV 0x06 .vmudn ∧ decodesV 0x07 .vmudh ∧ ∀ (s : State) (o : V3),
    (∃ t, exec (.vmudl o) s = .next t
      ∧ multiplies s t o (fun i => ((S s o i).toNat : Int) * ((T s o i).toNat : Int) / 2 ^ 16) unsignedLow
      ∧ ∀ i : LaneIx, hi t.acc[i] = 0#16 ∧ md t.acc[i] = 0#16 ∧ t.vr[o.vd][i] = lo t.acc[i])
    ∧ (∃ t, exec (.vmudm o) s = .next t
      ∧ multiplies s t o (fun i => (S s o i).toInt * ((T s o i).toNat : Int)) signedMid
      ∧ ∀ i : LaneIx, t.vr[o.vd][i] = md t.acc[i])
    ∧ (∃ t, exec (.vmudn o) s = .next t
      ∧ multiplies s t o (fun i => ((S s o i).toNat : Int) * (T s o i).toInt) unsignedLow
      ∧ ∀ i : LaneIx, t.vr[o.vd][i] = lo t.acc[i])
    ∧ (∃ t, exec (.vmudh o) s = .next t
      ∧ multiplies s t o (fun i => (S s o i).toInt * (T s o i).toInt * 2 ^ 16) signedMid
      ∧ ∀ i : LaneIx, lo t.acc[i] = 0#16 ∧ saturated ((S s o i).toInt * (T s o i).toInt) t.vr[o.vd][i])

/-- R178, R179: VMACF and VMACU; the sum wraps mod 2^48 before the clamp. -/
def Obligations.VmacfVmacuResult : Prop :=
  decodesV 0x08 .vmacf ∧ decodesV 0x09 .vmacu ∧ ∀ (s : State) (o : V3),
    (∃ t, exec (.vmacf o) s = .next t
      ∧ multiplies s t o (fun i => s.acc[i].toInt + 2 * ((S s o i).toInt * (T s o i).toInt)) signedMid)
    ∧ (∃ t, exec (.vmacu o) s = .next t
      ∧ multiplies s t o (fun i => s.acc[i].toInt + 2 * ((S s o i).toInt * (T s o i).toInt)) unsignedMid)

/-- R180 to R183: VMADL, VMADM, VMADN, VMADH; VMADH keeps `ACC_LO` and adds the product to bits 47:16. -/
def Obligations.VmadResult : Prop :=
  decodesV 0x0C .vmadl ∧ decodesV 0x0D .vmadm ∧ decodesV 0x0E .vmadn ∧ decodesV 0x0F .vmadh ∧ ∀ (s : State) (o : V3),
    (∃ t, exec (.vmadl o) s = .next t ∧ multiplies s t o
      (fun i => s.acc[i].toInt + ((S s o i).toNat : Int) * ((T s o i).toNat : Int) / 2 ^ 16) unsignedLow)
    ∧ (∃ t, exec (.vmadm o) s = .next t
      ∧ multiplies s t o (fun i => s.acc[i].toInt + (S s o i).toInt * ((T s o i).toNat : Int)) signedMid)
    ∧ (∃ t, exec (.vmadn o) s = .next t
      ∧ multiplies s t o (fun i => s.acc[i].toInt + ((S s o i).toNat : Int) * (T s o i).toInt) unsignedLow)
    ∧ (∃ t, exec (.vmadh o) s = .next t
      ∧ multiplies s t o (fun i => s.acc[i].toInt + (S s o i).toInt * (T s o i).toInt * 2 ^ 16) signedMid
      ∧ ∀ i : LaneIx, lo t.acc[i] = lo s.acc[i]
        ∧ t.acc[i].extractLsb' 16 32 = s.acc[i].extractLsb' 16 32 + BitVec.ofInt 32 ((S s o i).toInt * (T s o i).toInt))

/-! ## Compare and select -/

/-- R191, R194: VLT and VGE; their masks are complements, and with `VCO = 0` they give the signed minimum and maximum. -/
def Obligations.VltVgeResult : Prop :=
  decodesV 0x20 .vlt ∧ decodesV 0x23 .vge ∧ ∀ (s : State) (o : V3),
    ∃ t u, exec (.vlt o) s = .next t ∧ exec (.vge o) s = .next u
      ∧ selectCompares s t o (fun i => (S s o i).toInt < (T s o i).toInt
          ∨ (S s o i = T s o i ∧ notEq s i = true ∧ carry s i = true))
      ∧ selectCompares s u o (fun i => (S s o i).toInt > (T s o i).toInt
          ∨ (S s o i = T s o i ∧ ¬(notEq s i = true ∧ carry s i = true)))
      ∧ (∀ i : LaneIx, le u i = !le t i)
      ∧ (s.vco = 0#16 → ∀ i : LaneIx, (t.vr[o.vd][i]).toInt = min (S s o i).toInt (T s o i).toInt
          ∧ (u.vr[o.vd][i]).toInt = max (S s o i).toInt (T s o i).toInt)

/-- R192, R193: VEQ and VNE; their masks are complements, VEQ's result is `T` and VNE's is `S` in every lane. -/
def Obligations.VeqVneResult : Prop :=
  decodesV 0x21 .veq ∧ decodesV 0x22 .vne ∧ ∀ (s : State) (o : V3),
    ∃ t u, exec (.veq o) s = .next t ∧ exec (.vne o) s = .next u
      ∧ selectCompares s t o (fun i => S s o i = T s o i ∧ notEq s i = false)
      ∧ selectCompares s u o (fun i => S s o i ≠ T s o i ∨ notEq s i = true)
      ∧ (∀ i : LaneIx, le u i = !le t i ∧ t.vr[o.vd][i] = T s o i ∧ u.vr[o.vd][i] = S s o i)

/-- R195: VCH. With a bound that is not negative the result is `S` clipped to `-T .. T`. -/
def Obligations.VchResult : Prop :=
  decodesV 0x25 .vch ∧ ∀ (s : State) (o : V3), ∃ t, exec (.vch o) s = .next t
    ∧ selects s t o (fun i => t.vr[o.vd][i])
    ∧ (∀ i : LaneIx, (S s o i).msb ≠ (T s o i).msb →
        let x := (S s o i).toInt + (T s o i).toInt
        (le t i = true ↔ x ≤ 0) ∧ (ge t i = true ↔ (T s o i).toInt < 0) ∧ carry t i = true
        ∧ (ce t i = true ↔ x = -1) ∧ (notEq t i = true ↔ x ≠ 0 ∧ x ≠ -1)
        ∧ t.vr[o.vd][i] = (if x ≤ 0 then -T s o i else S s o i))
    ∧ (∀ i : LaneIx, (S s o i).msb = (T s o i).msb →
        let x := (S s o i).toInt - (T s o i).toInt
        (le t i = true ↔ (T s o i).toInt < 0) ∧ (ge t i = true ↔ x ≥ 0) ∧ carry t i = false
        ∧ ce t i = false ∧ (notEq t i = true ↔ x ≠ 0)
        ∧ t.vr[o.vd][i] = (if x ≥ 0 then T s o i else S s o i))
    ∧ (∀ i : LaneIx, 0 ≤ (T s o i).toInt →
        (t.vr[o.vd][i]).toInt = max (-(T s o i).toInt) (min (T s o i).toInt (S s o i).toInt))

/-- R196: VCL. -/
def Obligations.VclResult : Prop :=
  decodesV 0x24 .vcl ∧ ∀ (s : State) (o : V3), ∃ t, exec (.vcl o) s = .next t
    ∧ selects s t o (fun i => t.vr[o.vd][i]) ∧ t.vco = 0#16 ∧ t.vce = 0#8
    ∧ (∀ i : LaneIx, carry s i = true →
        let x := (S s o i).toNat + (T s o i).toNat
        ge t i = ge s i
        ∧ (notEq s i = true → le t i = le s i)
        ∧ (notEq s i = false → ce s i = true → (le t i = true ↔ x % 2 ^ 16 = 0 ∨ x < 2 ^ 16))
        ∧ (notEq s i = false → ce s i = false → (le t i = true ↔ x % 2 ^ 16 = 0 ∧ x < 2 ^ 16))
        ∧ t.vr[o.vd][i] = (if le t i then -T s o i else S s o i))
    ∧ (∀ i : LaneIx, carry s i = false →
        le t i = le s i
        ∧ (notEq s i = true → ge t i = ge s i)
        ∧ (notEq s i = false → (ge t i = true ↔ (S s o i).toNat ≥ (T s o i).toNat))
        ∧ t.vr[o.vd][i] = (if ge t i then T s o i else S s o i))

/-- R197: VCR. With a bound that is not negative the result is `S` clipped to `~T .. T`. -/
def Obligations.VcrResult : Prop :=
  decodesV 0x26 .vcr ∧ ∀ (s : State) (o : V3), ∃ t, exec (.vcr o) s = .next t
    ∧ selects s t o (fun i => t.vr[o.vd][i]) ∧ t.vco = 0#16 ∧ t.vce = 0#8
    ∧ (∀ i : LaneIx, (S s o i).msb ≠ (T s o i).msb →
        (le t i = true ↔ (S s o i).toInt + (T s o i).toInt + 1 ≤ 0) ∧ (ge t i = true ↔ (T s o i).toInt < 0)
        ∧ t.vr[o.vd][i] = (if (S s o i).toInt + (T s o i).toInt + 1 ≤ 0 then ~~~(T s o i) else S s o i))
    ∧ (∀ i : LaneIx, (S s o i).msb = (T s o i).msb →
        (le t i = true ↔ (T s o i).toInt < 0) ∧ (ge t i = true ↔ (S s o i).toInt - (T s o i).toInt ≥ 0)
        ∧ t.vr[o.vd][i] = (if (S s o i).toInt - (T s o i).toInt ≥ 0 then T s o i else S s o i))
    ∧ (∀ i : LaneIx, 0 ≤ (T s o i).toInt →
        (t.vr[o.vd][i]).toInt = max (-(T s o i).toInt - 1) (min (T s o i).toInt (S s o i).toInt))

/-- R190 and R265's double-width pairs: VSUBC on the low halves then a select compare on the high halves leaves in `VCC.le`
the 32-bit comparison. -/
def Obligations.DoubleWidthCompare : Prop :=
  ∀ (s : State) (l h : V3), l.vd ≠ h.vs → l.vd ≠ h.vt →
    ∃ t, exec (.vsubc l) s = .next t
      ∧ (∃ u, exec (.vlt h) t = .next u
        ∧ ∀ i : LaneIx, le u i = decide ((S s h i ++ S s l i : Word).toInt < (T s h i ++ T s l i : Word).toInt))
      ∧ (∃ u, exec (.vge h) t = .next u
        ∧ ∀ i : LaneIx, le u i = decide ((S s h i ++ S s l i : Word).toInt ≥ (T s h i ++ T s l i : Word).toInt))
      ∧ (∃ u, exec (.veq h) t = .next u
        ∧ ∀ i : LaneIx, le u i = decide ((S s h i ++ S s l i : Word) = (T s h i ++ T s l i : Word)))
      ∧ (∃ u, exec (.vne h) t = .next u
        ∧ ∀ i : LaneIx, le u i = decide ((S s h i ++ S s l i : Word) ≠ (T s h i ++ T s l i : Word)))

/-- R196 and R265: VCH on the high halves then VCL on the low halves leaves in `VCC` the comparisons of a 32-bit clip, and
VCL's destination holds the low half of the clipped value. Nothing is said of VCH's destination, which need not be the high
half (TV-CMP-2, lane 1). -/
def Obligations.DoubleWidthClip : Prop :=
  ∀ (s : State) (h l : V3), h.vd ≠ l.vs → h.vd ≠ l.vt →
    ∃ t u, exec (.vch h) s = .next t ∧ exec (.vcl l) t = .next u ∧ ∀ i : LaneIx,
      let a : Word := S s h i ++ S s l i
      let b : Word := T s h i ++ T s l i
      (a.msb ≠ b.msb → (le u i = true ↔ a.toInt + b.toInt ≤ 0)
        ∧ u.vr[l.vd][i] = (if a.toInt + b.toInt ≤ 0 then -b else a).extractLsb' 0 16)
      ∧ (a.msb = b.msb → (ge u i = true ↔ a.toInt ≥ b.toInt)
        ∧ u.vr[l.vd][i] = (if a.toInt ≥ b.toInt then b else a).extractLsb' 0 16)

/-! ## Merge, absolute value, move, accumulator read, no operation -/

/-- R201: VMRG. -/
def Obligations.VmrgResult : Prop :=
  decodesV 0x27 .vmrg ∧ ∀ (s : State) (o : V3), ∃ t, exec (.vmrg o) s = .next t
    ∧ (∀ i : LaneIx, t.vr[o.vd][i] = (if le s i then S s o i else T s o i) ∧ lo t.acc[i] = t.vr[o.vd][i])
    ∧ upperKept s t ∧ vrOnly s t o.vd ∧ flagsKept s t ∧ latchesKept s t ∧ memoryKept s t ∧ portKept s t

/-- R202: VABS, under both values of `ABS_MIN_WRAPS`. -/
def Obligations.VabsResult : Prop :=
  decodesV 0x13 .vabs ∧ ∀ (s : State) (o : V3), ∃ t, exec (.vabs o) s = .next t
    ∧ (∀ i : LaneIx,
      ((S s o i).toInt < 0 → ((lo t.acc[i]).toNat : Int) = -(T s o i).toInt % 2 ^ 16
        ∧ (T s o i ≠ 0x8000#16 → t.vr[o.vd][i] = lo t.acc[i])
        ∧ (T s o i = 0x8000#16 → lo t.acc[i] = 0x8000#16
          ∧ t.vr[o.vd][i] = if s.cfg.absMinWraps then 0x8000#16 else 0x7FFF#16))
      ∧ ((S s o i).toInt = 0 → lo t.acc[i] = 0x0000#16 ∧ t.vr[o.vd][i] = 0x0000#16)
      ∧ ((S s o i).toInt > 0 → lo t.acc[i] = T s o i ∧ t.vr[o.vd][i] = T s o i))
    ∧ upperKept s t ∧ vrOnly s t o.vd ∧ flagsKept s t ∧ latchesKept s t ∧ memoryKept s t ∧ portKept s t

/-- R203: VMOV. -/
def Obligations.VmovResult : Prop :=
  decodesV1 0x33 .vmov ∧ ∀ (s : State) (o : V1), ∃ t, exec (.vmov o) s = .next t
    ∧ movesLane s t o (T1 s o o.de) ∧ latchesKept s t

/-- R204: VSAR; whatever the `vs` and `vt` fields hold. -/
def Obligations.VsarResult : Prop :=
  (∀ o : V3, decode (wordV 0x1D o) = .ok (.vsar ⟨o.vd, o.e⟩)) ∧ ∀ (s : State) (o : VPlane),
    ∃ t, exec (.vsar o) s = .next t
    ∧ (∀ i : LaneIx, (o.e = 8 → t.vr[o.vd][i] = hi s.acc[i]) ∧ (o.e = 9 → t.vr[o.vd][i] = md s.acc[i])
      ∧ (o.e = 10 → t.vr[o.vd][i] = lo s.acc[i])
      ∧ (o.e ≠ 8 → o.e ≠ 9 → o.e ≠ 10 → t.vr[o.vd][i] = 0x0000#16))
    ∧ accKept s t ∧ vrOnly s t o.vd ∧ flagsKept s t ∧ latchesKept s t ∧ memoryKept s t ∧ portKept s t

/-- R205, R206: VNOP and VNULL change nothing, whatever their fields hold. -/
def Obligations.NopsChangeNothing : Prop :=
  (∀ o : V3, decode (wordV 0x37 o) = .ok .vnop) ∧ (∀ o : V3, decode (wordV 0x3F o) = .ok .vnull)
    ∧ ∀ s : State, exec .vnop s = .next s ∧ exec .vnull s = .next s

/-! ## Reciprocal unit -/

/-- R211: `rcp_core` in arithmetic. The magnitude is -x-1 from -32768 down; zero and -32768 have fixed results; otherwise the
table entry named by the nine bits below the leading one is scaled by the count of leading zeros, and complemented for a
negative input. -/
def Obligations.ReciprocalCoreClassifiesAndScales : Prop :=
  ∀ (c : Config) (x : Word) (rsq : Bool),
    let data : Nat :=
      if 0 ≤ x.toInt then x.toInt.toNat else if -32768 < x.toInt then (-x.toInt).toNat else (-x.toInt - 1).toNat
    (x.toInt = 0 → rcpCore c x rsq = 0x7FFFFFFF#32)
    ∧ (x.toInt = -32768 → rcpCore c x rsq = 0xFFFF0000#32)
    ∧ (x.toInt ≠ 0 → ∃ shift : Nat, shift < 32 ∧ 2 ^ (31 - shift) ≤ data ∧ data < 2 ^ (32 - shift)
      ∧ (x.toInt ≠ -32768 →
        let index := data * 2 ^ shift / 2 ^ 22 % 512
        let r : Nat :=
          if rsq then (0x10000 + (c.rsqRom[Fin.ofNat 512 (index / 2 * 2 + shift % 2)]).toNat) * 2 ^ 14 / 2 ^ ((31 - shift) / 2)
          else (0x10000 + (c.rcpRom[Fin.ofNat 512 index]).toNat) * 2 ^ 14 / 2 ^ (31 - shift)
        (rcpCore c x rsq).toNat = if x.toInt < 0 then 2 ^ 32 - 1 - r else r))

/-- R216, R219: VRCP and VRSQ, on the input lane sign-extended. -/
def Obligations.VrcpVrsqResult : Prop :=
  decodesV1 0x30 .vrcp ∧ decodesV1 0x34 .vrsq ∧ ∀ (s : State) (o : V1),
    (∃ t, exec (.vrcp o) s = .next t ∧ producesResult s t o false ((inputLane s o).signExtend 32))
    ∧ (∃ t, exec (.vrsq o) s = .next t ∧ producesResult s t o true ((inputLane s o).signExtend 32))

/-- R217, R220: VRCPL and VRSQL, on `DIV_IN` and the lane where `DP` is set, else on the lane sign-extended. -/
def Obligations.VrcplVrsqlResult : Prop :=
  decodesV1 0x31 .vrcpl ∧ decodesV1 0x35 .vrsql ∧ ∀ (s : State) (o : V1),
    let x : Word := if s.dp then s.divIn ++ inputLane s o else (inputLane s o).signExtend 32
    (∃ t, exec (.vrcpl o) s = .next t ∧ producesResult s t o false x)
    ∧ (∃ t, exec (.vrsql o) s = .next t ∧ producesResult s t o true x)

/-- R218, R221: VRCPH and VRSQH, identical in effect. -/
def Obligations.VrcphVrsqhResult : Prop :=
  decodesV1 0x32 .vrcph ∧ decodesV1 0x36 .vrsqh ∧ ∀ (s : State) (o : V1),
    ∃ t, exec (.vrcph o) s = .next t ∧ exec (.vrsqh o) s = .next t
      ∧ movesLane s t o s.divOut ∧ t.dp = true ∧ t.divIn = inputLane s o ∧ t.divOut = s.divOut

/-- R215: a high-half instruction, a low-half one and a high-half one give the 32-bit result of the 32-bit input, low half
by the second, high half by the third, whichever of the two kinds each high-half instruction is. -/
def Obligations.DoublePrecisionSequence : Prop :=
  ∀ (s : State) (a b c : V1) (ia ic : V1 → Instr) (rsq : Bool),
    (ia = .vrcph ∨ ia = .vrsqh) → (ic = .vrcph ∨ ic = .vrsqh) →
    ∃ t u v, exec (ia a) s = .next t ∧ exec (if rsq then .vrsql b else .vrcpl b) t = .next u ∧ exec (ic c) u = .next v
      ∧ (let res := rcpCore s.cfg (inputLane s a ++ inputLane t b) rsq
        u.vr[b.vd][b.de] = res.extractLsb' 0 16 ∧ v.vr[c.vd][c.de] = res.extractLsb' 16 16)
      ∧ u.dp = false ∧ v.dp = true

/-! ## Register and flag access -/

/-- R231: MFC2; the second byte's index wraps. -/
def Obligations.Mfc2Result : Prop :=
  (∀ (rt rd : Fin 32) (e : Fin 16) (low : BitVec 7), decode (wordM 0x00 rt rd e low) = .ok (.mfc2 ⟨rt, rd, e⟩))
    ∧ ∀ (s : State) (o : MV), ∃ t, exec (.mfc2 o) s = .next t
    ∧ t.sdataOut = some ((vrb s.vr[o.rd] o.e ++ vrb s.vr[o.rd] (o.e + 1) : BitVec 16).signExtend 32)
    ∧ t.vr = s.vr ∧ accKept s t ∧ flagsKept s t ∧ latchesKept s t ∧ memoryKept s t ∧ inputsKept s t

/-- R232, R233: CFC2, under both values of `VCE_READ_SEXT`. -/
def Obligations.Cfc2Result : Prop :=
  (∀ (rt rd : Fin 32) (e : Fin 16) (low : BitVec 7),
      decode (wordM 0x02 rt rd e low) = .ok (.cfc2 ⟨rt, ⟨rd.val % 4, by omega⟩⟩))
    ∧ ∀ (s : State) (o : MC), ∃ t, exec (.cfc2 o) s = .next t
    ∧ (o.c = 0 → t.sdataOut = some (s.vco.signExtend 32)) ∧ (o.c = 1 → t.sdataOut = some (s.vcc.signExtend 32))
    ∧ (o.c = 2 ∨ o.c = 3 →
        t.sdataOut = some (if s.cfg.vceReadSext then s.vce.signExtend 32 else s.vce.zeroExtend 32))
    ∧ t.vr = s.vr ∧ accKept s t ∧ flagsKept s t ∧ latchesKept s t ∧ memoryKept s t ∧ inputsKept s t

/-- R234: MTC2; with `e = 15` one byte only. -/
def Obligations.Mtc2Result : Prop :=
  (∀ (rt rd : Fin 32) (e : Fin 16) (low : BitVec 7), decode (wordM 0x04 rt rd e low) = .ok (.mtc2 ⟨rt, rd, e⟩))
    ∧ ∀ (s : State) (o : MV), ∃ t, exec (.mtc2 o) s = .next t
    ∧ (∀ k : Fin 16, vrb t.vr[o.rd] k =
        if k.val = o.e.val then s.sdataIn.extractLsb' 8 8
        else if k.val = o.e.val + 1 then s.sdataIn.extractLsb' 0 8 else vrb s.vr[o.rd] k)
    ∧ vrOnly s t o.rd ∧ accKept s t ∧ flagsKept s t ∧ latchesKept s t ∧ memoryKept s t ∧ portKept s t

/-- R232, R235: CTC2 writes the selected flag register whole, and CFC2 of it then reads the value back in its low bits. -/
def Obligations.Ctc2Result : Prop :=
  (∀ (rt rd : Fin 32) (e : Fin 16) (low : BitVec 7),
      decode (wordM 0x06 rt rd e low) = .ok (.ctc2 ⟨rt, ⟨rd.val % 4, by omega⟩⟩))
    ∧ ∀ (s : State) (o : MC), ∃ t, exec (.ctc2 o) s = .next t
    ∧ t.vco = (if o.c = 0 then s.sdataIn.extractLsb' 0 16 else s.vco)
    ∧ t.vcc = (if o.c = 1 then s.sdataIn.extractLsb' 0 16 else s.vcc)
    ∧ t.vce = (if o.c = 2 ∨ o.c = 3 then s.sdataIn.extractLsb' 0 8 else s.vce)
    ∧ t.vr = s.vr ∧ accKept s t ∧ latchesKept s t ∧ memoryKept s t ∧ portKept s t
    ∧ ∀ rt : Fin 32, ∃ u x, exec (.cfc2 ⟨rt, o.c⟩) t = .next u ∧ u.sdataOut = some x
      ∧ (if o.c = 0 ∨ o.c = 1 then x.extractLsb' 0 16 = s.sdataIn.extractLsb' 0 16
         else x.extractLsb' 0 8 = s.sdataIn.extractLsb' 0 8)

/-! ## Loads and stores -/

/-- R51: one transaction reads or writes all its bytes or none, byte `k` at address `k`; what it reports is one of its
addresses; a transaction of no bytes cannot fault. -/
def Obligations.BusTransactionsAreAllOrNothing : Prop :=
  (∀ (s : State) (acc : Access) (addrs : List Word) (f : Word), busAnswer s acc addrs = some f → f ∈ addrs)
    ∧ (∀ (s : State) (addrs : List Word),
      (busAnswer s .read addrs = none → s.memReadV addrs = .ok (addrs.map s.readByte))
      ∧ ∀ f : Word, busAnswer s .read addrs = some f → s.memReadV addrs = .error f)
    ∧ (∀ (s : State) (addrs : List Word) (bytes : List Byte), s.Inv → bytes.length = addrs.length →
        (addrs.map (busIndex s.cfg.bus)).Nodup →
      (busAnswer s .write addrs = none → ∃ t, s.memWriteV addrs bytes = .ok t
        ∧ (∀ (k : Nat) (ha : k < addrs.length) (hb : k < bytes.length), t.readByte addrs[k] = bytes[k])
        ∧ (∀ b : Word, (∀ a ∈ addrs, ¬sameByte s b a) → t.readByte b = s.readByte b)
        ∧ t = { s with mem := t.mem })
      ∧ ∀ f : Word, busAnswer s .write addrs = some f → s.memWriteV addrs bytes = .error f)
    ∧ ∀ s : State, s.memReadV [] = .ok [] ∧ s.memWriteV [] [] = .ok s

/-- Log 8: a bus that refuses by its ranges alone (that of the spec's example program P6 (a) among them) refuses a transaction
when one of its addresses lies in a refused range of the access, and reports the lowest such address. -/
def Obligations.RefusedRangesReportTheLowestAddress : Prop :=
  ∀ (s : State) (acc : Access) (addrs : List Word), s.cfg.bus.answers = [] →
    let refused := fun a : Word => ∃ r ∈ (if acc = .read then s.cfg.bus.readRefused else s.cfg.bus.writeRefused),
      r.lo ≤ a.toNat ∧ a.toNat < r.hi
    (busAnswer s acc addrs = none ↔ ∀ a ∈ addrs, ¬refused a)
    ∧ ∀ f : Word, busAnswer s acc addrs = some f ↔ f ∈ addrs ∧ refused f ∧ ∀ a ∈ addrs, refused a → f.toNat ≤ a.toNat

/-- R123 to R126: LBV, LSV, LLV, LDV; the register does not wrap. -/
def Obligations.GroupLoadsResult : Prop :=
  decodesLS 0xC8000000 0 .lbv ∧ decodesLS 0xC8000000 1 .lsv ∧ decodesLS 0xC8000000 2 .llv
    ∧ decodesLS 0xC8000000 3 .ldv ∧ ∀ (s : State) (o : LS),
    loadsBytes s (.lbv o) o.vt o.e.val 1 (EA s o 1)
    ∧ loadsBytes s (.lsv o) o.vt o.e.val (min 2 (16 - o.e.val)) (EA s o 2)
    ∧ loadsBytes s (.llv o) o.vt o.e.val (min 4 (16 - o.e.val)) (EA s o 4)
    ∧ loadsBytes s (.ldv o) o.vt o.e.val (min 8 (16 - o.e.val)) (EA s o 8)

/-- R127, R128: LQV and LRV; and LQV at an address then LRV sixteen bytes on loads the sixteen bytes there. -/
def Obligations.QuadLoadsResult : Prop :=
  decodesLS 0xC8000000 4 .lqv ∧ decodesLS 0xC8000000 5 .lrv
    ∧ (∀ (s : State) (o : LS),
      let a := (EA s o 16).toNat % 16
      loadsBytes s (.lqv o) o.vt o.e.val (min (16 - a) (16 - o.e.val)) (EA s o 16)
      ∧ loadsBytes s (.lrv o) o.vt (16 - (a - o.e.val)) (a - o.e.val) (EA s o 16 - BitVec.ofNat 32 a))
    ∧ ∀ (s : State) (p q : LS), p.vt = q.vt → p.e = 0 → q.e = 0 → EA s q 16 = plus (EA s p 16) 16 →
      let a := (EA s p 16).toNat % 16
      busAnswer s .read (span (EA s p 16) (16 - a)) = none →
      busAnswer s .read (span (plus (EA s p 16) (16 - a)) a) = none →
      ∃ t u, exec (.lqv p) s = .next t ∧ exec (.lrv q) t = .next u
        ∧ ∀ k : Fin 16, vrb u.vr[p.vt] k = s.readByte (plus (EA s p 16) k.val)

/-- R129, R130: LPV and LUV; the index wraps inside the sixteen-byte window at the aligned address. -/
def Obligations.PackedLoadsResult : Prop :=
  decodesLS 0xC8000000 6 .lpv ∧ decodesLS 0xC8000000 7 .luv ∧ ∀ (s : State) (o : LS),
    let ea := EA s o 8
    let addr := fun i : Nat => plus (ea - BitVec.ofNat 32 (ea.toNat % 8)) ((ea.toNat % 8 + 16 - o.e.val + i) % 16)
    loadsLanes s (.lpv o) o.vt addr (fun b => b ++ 0#8) ∧ loadsLanes s (.luv o) o.vt addr (fun b => 0#1 ++ b ++ 0#7)

/-- R131 to R134: SBV, SSV, SLV, SDV; the register index wraps. -/
def Obligations.GroupStoresResult : Prop :=
  decodesLS 0xE8000000 0 .sbv ∧ decodesLS 0xE8000000 1 .ssv ∧ decodesLS 0xE8000000 2 .slv
    ∧ decodesLS 0xE8000000 3 .sdv ∧ ∀ (s : State) (o : LS), s.Inv →
    let byte := fun k : Nat => vrb s.vr[o.vt] (Fin.ofNat 16 (o.e.val + k))
    storesBytes s (.sbv o) 1 (EA s o 1) byte ∧ storesBytes s (.ssv o) 2 (EA s o 2) byte
    ∧ storesBytes s (.slv o) 4 (EA s o 4) byte ∧ storesBytes s (.sdv o) 8 (EA s o 8) byte

/-- R135, R136: SQV and SRV; and SQV at an address then SRV sixteen bytes on stores the whole register there. -/
def Obligations.QuadStoresResult : Prop :=
  decodesLS 0xE8000000 4 .sqv ∧ decodesLS 0xE8000000 5 .srv
    ∧ (∀ (s : State) (o : LS), s.Inv →
      let a := (EA s o 16).toNat % 16
      storesBytes s (.sqv o) (16 - a) (EA s o 16) (fun k => vrb s.vr[o.vt] (Fin.ofNat 16 (o.e.val + k)))
      ∧ storesBytes s (.srv o) a (EA s o 16 - BitVec.ofNat 32 a)
          (fun k => vrb s.vr[o.vt] (Fin.ofNat 16 (o.e.val + 16 - a + k))))
    ∧ ∀ (s : State) (p q : LS), s.Inv → p.vt = q.vt → p.e = 0 → q.e = 0 → EA s q 16 = plus (EA s p 16) 16 →
      let a := (EA s p 16).toNat % 16
      busAnswer s .write (span (EA s p 16) (16 - a)) = none →
      busAnswer s .write (span (plus (EA s p 16) (16 - a)) a) = none →
      ∃ t u, exec (.sqv p) s = .next t ∧ exec (.srv q) t = .next u
        ∧ ∀ k : Fin 16, u.readByte (plus (EA s p 16) k.val) = vrb s.vr[p.vt] k

/-- R137, R138: SPV and SUV; the packing changes where `e + k` reaches 8. -/
def Obligations.PackedStoresResult : Prop :=
  decodesLS 0xE8000000 6 .spv ∧ decodesLS 0xE8000000 7 .suv ∧ ∀ (s : State) (o : LS), s.Inv →
    let top := fun j : Nat => vrb s.vr[o.vt] (Fin.ofNat 16 (2 * (j % 8)))
    let fraction := fun j : Nat => ((s.vr[o.vt][Fin.ofNat 8 j]) >>> 7).extractLsb' 0 8
    storesBytes s (.spv o) 8 (EA s o 8)
      (fun k => if (o.e.val + k) % 16 < 8 then top (o.e.val + k) else fraction (o.e.val + k))
    ∧ storesBytes s (.suv o) 8 (EA s o 8)
      (fun k => if (o.e.val + k) % 16 < 8 then fraction (o.e.val + k) else top (o.e.val + k))

/-- R139: what a store of a group or of a quad put in memory, the load of the same element, width and address takes back
into any register, byte for byte; and with `e = 0` LPV then SPV, and LUV then SUV, write back what was read. -/
def Obligations.StoreThenLoadRoundTrip : Prop :=
  (∀ (s : State) (p q : LS) (st ld : LS → Instr) (scale n : Nat), s.Inv →
      ((st = .sbv ∧ ld = .lbv ∧ scale = 1 ∧ n = 1) ∨ (st = .ssv ∧ ld = .lsv ∧ scale = 2 ∧ n = 2)
        ∨ (st = .slv ∧ ld = .llv ∧ scale = 4 ∧ n = 4) ∨ (st = .sdv ∧ ld = .ldv ∧ scale = 8 ∧ n = 8)
        ∨ (st = .sqv ∧ ld = .lqv ∧ scale = 16 ∧ n = 16 - (EA s p 16).toNat % 16)) →
      p.e = q.e → EA s p scale = EA s q scale →
      busAnswer s .write (span (EA s p scale) n) = none →
      busAnswer s .read (span (EA s p scale) (min n (16 - p.e.val))) = none →
      ∃ t u, exec (st p) s = .next t ∧ exec (ld q) t = .next u
        ∧ ∀ k : Fin 16, p.e.val ≤ k.val → k.val < p.e.val + min n (16 - p.e.val) → vrb u.vr[q.vt] k = vrb s.vr[p.vt] k)
    ∧ ∀ (s : State) (o : LS) (ld st : LS → Instr), s.Inv → o.e = 0 →
      ((ld = .lpv ∧ st = .spv) ∨ (ld = .luv ∧ st = .suv)) →
      busAnswer s .read (span (EA s o 8) 8) = none → busAnswer s .write (span (EA s o 8) 8) = none →
      ∃ t u, exec (ld o) s = .next t ∧ exec (st o) t = .next u ∧ memoryKept s u
end

