-- ==== Sys2Proof/Laws/State.lean ====
section
/-!
SUPPORT. One lemma per field per state update, true by unfolding: what each named update writes and that it writes nothing
else. Later proofs cite these and unfold no record update.
-/

namespace Sys2Proof.Machine

section setVR
variable (s : State) (r : Fin 32) (v : VReg)

@[simp] theorem State.setVR_vr : (s.setVR r v).vr = s.vr.set r v := rfl
@[simp] theorem State.setVR_acc : (s.setVR r v).acc = s.acc := rfl
@[simp] theorem State.setVR_vco : (s.setVR r v).vco = s.vco := rfl
@[simp] theorem State.setVR_vcc : (s.setVR r v).vcc = s.vcc := rfl
@[simp] theorem State.setVR_vce : (s.setVR r v).vce = s.vce := rfl
@[simp] theorem State.setVR_divIn : (s.setVR r v).divIn = s.divIn := rfl
@[simp] theorem State.setVR_divOut : (s.setVR r v).divOut = s.divOut := rfl
@[simp] theorem State.setVR_dp : (s.setVR r v).dp = s.dp := rfl
@[simp] theorem State.setVR_mem : (s.setVR r v).mem = s.mem := rfl
@[simp] theorem State.setVR_sdataIn : (s.setVR r v).sdataIn = s.sdataIn := rfl
@[simp] theorem State.setVR_sdataOut : (s.setVR r v).sdataOut = s.sdataOut := rfl
@[simp] theorem State.setVR_commands : (s.setVR r v).commands = s.commands := rfl
@[simp] theorem State.setVR_cfg : (s.setVR r v).cfg = s.cfg := rfl

end setVR

section setLanes
variable (s : State) (r : Fin 32) (f : LaneIx → Lane)

@[simp] theorem State.setLanes_vr : (s.setLanes r f).vr = s.vr.set r (Vector.ofFn f) := rfl
@[simp] theorem State.setLanes_acc : (s.setLanes r f).acc = s.acc := rfl
@[simp] theorem State.setLanes_vco : (s.setLanes r f).vco = s.vco := rfl
@[simp] theorem State.setLanes_vcc : (s.setLanes r f).vcc = s.vcc := rfl
@[simp] theorem State.setLanes_vce : (s.setLanes r f).vce = s.vce := rfl
@[simp] theorem State.setLanes_divIn : (s.setLanes r f).divIn = s.divIn := rfl
@[simp] theorem State.setLanes_divOut : (s.setLanes r f).divOut = s.divOut := rfl
@[simp] theorem State.setLanes_dp : (s.setLanes r f).dp = s.dp := rfl
@[simp] theorem State.setLanes_mem : (s.setLanes r f).mem = s.mem := rfl
@[simp] theorem State.setLanes_sdataIn : (s.setLanes r f).sdataIn = s.sdataIn := rfl
@[simp] theorem State.setLanes_sdataOut : (s.setLanes r f).sdataOut = s.sdataOut := rfl
@[simp] theorem State.setLanes_commands : (s.setLanes r f).commands = s.commands := rfl
@[simp] theorem State.setLanes_cfg : (s.setLanes r f).cfg = s.cfg := rfl

end setLanes

section setLane
variable (s : State) (r : Fin 32) (i : LaneIx) (x : Lane)

@[simp] theorem State.setLane_vr : (s.setLane r i x).vr = s.vr.set r (s.vr[r].set i x) := rfl
@[simp] theorem State.setLane_acc : (s.setLane r i x).acc = s.acc := rfl
@[simp] theorem State.setLane_vco : (s.setLane r i x).vco = s.vco := rfl
@[simp] theorem State.setLane_vcc : (s.setLane r i x).vcc = s.vcc := rfl
@[simp] theorem State.setLane_vce : (s.setLane r i x).vce = s.vce := rfl
@[simp] theorem State.setLane_divIn : (s.setLane r i x).divIn = s.divIn := rfl
@[simp] theorem State.setLane_divOut : (s.setLane r i x).divOut = s.divOut := rfl
@[simp] theorem State.setLane_dp : (s.setLane r i x).dp = s.dp := rfl
@[simp] theorem State.setLane_mem : (s.setLane r i x).mem = s.mem := rfl
@[simp] theorem State.setLane_sdataIn : (s.setLane r i x).sdataIn = s.sdataIn := rfl
@[simp] theorem State.setLane_sdataOut : (s.setLane r i x).sdataOut = s.sdataOut := rfl
@[simp] theorem State.setLane_commands : (s.setLane r i x).commands = s.commands := rfl
@[simp] theorem State.setLane_cfg : (s.setLane r i x).cfg = s.cfg := rfl

end setLane

section setAcc
variable (s : State) (f : LaneIx → AccLane)

@[simp] theorem State.setAcc_vr : (s.setAcc f).vr = s.vr := rfl
@[simp] theorem State.setAcc_acc : (s.setAcc f).acc = Vector.ofFn f := rfl
@[simp] theorem State.setAcc_vco : (s.setAcc f).vco = s.vco := rfl
@[simp] theorem State.setAcc_vcc : (s.setAcc f).vcc = s.vcc := rfl
@[simp] theorem State.setAcc_vce : (s.setAcc f).vce = s.vce := rfl
@[simp] theorem State.setAcc_divIn : (s.setAcc f).divIn = s.divIn := rfl
@[simp] theorem State.setAcc_divOut : (s.setAcc f).divOut = s.divOut := rfl
@[simp] theorem State.setAcc_dp : (s.setAcc f).dp = s.dp := rfl
@[simp] theorem State.setAcc_mem : (s.setAcc f).mem = s.mem := rfl
@[simp] theorem State.setAcc_sdataIn : (s.setAcc f).sdataIn = s.sdataIn := rfl
@[simp] theorem State.setAcc_sdataOut : (s.setAcc f).sdataOut = s.sdataOut := rfl
@[simp] theorem State.setAcc_commands : (s.setAcc f).commands = s.commands := rfl
@[simp] theorem State.setAcc_cfg : (s.setAcc f).cfg = s.cfg := rfl

end setAcc

section setAccLo
variable (s : State) (f : LaneIx → Lane)

@[simp] theorem State.setAccLo_vr : (s.setAccLo f).vr = s.vr := rfl
@[simp] theorem State.setAccLo_acc : (s.setAccLo f).acc = Vector.ofFn fun i => s.acc[i].extractLsb' 16 32 ++ f i := rfl
@[simp] theorem State.setAccLo_vco : (s.setAccLo f).vco = s.vco := rfl
@[simp] theorem State.setAccLo_vcc : (s.setAccLo f).vcc = s.vcc := rfl
@[simp] theorem State.setAccLo_vce : (s.setAccLo f).vce = s.vce := rfl
@[simp] theorem State.setAccLo_divIn : (s.setAccLo f).divIn = s.divIn := rfl
@[simp] theorem State.setAccLo_divOut : (s.setAccLo f).divOut = s.divOut := rfl
@[simp] theorem State.setAccLo_dp : (s.setAccLo f).dp = s.dp := rfl
@[simp] theorem State.setAccLo_mem : (s.setAccLo f).mem = s.mem := rfl
@[simp] theorem State.setAccLo_sdataIn : (s.setAccLo f).sdataIn = s.sdataIn := rfl
@[simp] theorem State.setAccLo_sdataOut : (s.setAccLo f).sdataOut = s.sdataOut := rfl
@[simp] theorem State.setAccLo_commands : (s.setAccLo f).commands = s.commands := rfl
@[simp] theorem State.setAccLo_cfg : (s.setAccLo f).cfg = s.cfg := rfl

end setAccLo

section setVco
variable (s : State) (v : BitVec 16)

@[simp] theorem State.setVco_vr : (s.setVco v).vr = s.vr := rfl
@[simp] theorem State.setVco_acc : (s.setVco v).acc = s.acc := rfl
@[simp] theorem State.setVco_vco : (s.setVco v).vco = v := rfl
@[simp] theorem State.setVco_vcc : (s.setVco v).vcc = s.vcc := rfl
@[simp] theorem State.setVco_vce : (s.setVco v).vce = s.vce := rfl
@[simp] theorem State.setVco_divIn : (s.setVco v).divIn = s.divIn := rfl
@[simp] theorem State.setVco_divOut : (s.setVco v).divOut = s.divOut := rfl
@[simp] theorem State.setVco_dp : (s.setVco v).dp = s.dp := rfl
@[simp] theorem State.setVco_mem : (s.setVco v).mem = s.mem := rfl
@[simp] theorem State.setVco_sdataIn : (s.setVco v).sdataIn = s.sdataIn := rfl
@[simp] theorem State.setVco_sdataOut : (s.setVco v).sdataOut = s.sdataOut := rfl
@[simp] theorem State.setVco_commands : (s.setVco v).commands = s.commands := rfl
@[simp] theorem State.setVco_cfg : (s.setVco v).cfg = s.cfg := rfl

end setVco

section setVcc
variable (s : State) (v : BitVec 16)

@[simp] theorem State.setVcc_vr : (s.setVcc v).vr = s.vr := rfl
@[simp] theorem State.setVcc_acc : (s.setVcc v).acc = s.acc := rfl
@[simp] theorem State.setVcc_vco : (s.setVcc v).vco = s.vco := rfl
@[simp] theorem State.setVcc_vcc : (s.setVcc v).vcc = v := rfl
@[simp] theorem State.setVcc_vce : (s.setVcc v).vce = s.vce := rfl
@[simp] theorem State.setVcc_divIn : (s.setVcc v).divIn = s.divIn := rfl
@[simp] theorem State.setVcc_divOut : (s.setVcc v).divOut = s.divOut := rfl
@[simp] theorem State.setVcc_dp : (s.setVcc v).dp = s.dp := rfl
@[simp] theorem State.setVcc_mem : (s.setVcc v).mem = s.mem := rfl
@[simp] theorem State.setVcc_sdataIn : (s.setVcc v).sdataIn = s.sdataIn := rfl
@[simp] theorem State.setVcc_sdataOut : (s.setVcc v).sdataOut = s.sdataOut := rfl
@[simp] theorem State.setVcc_commands : (s.setVcc v).commands = s.commands := rfl
@[simp] theorem State.setVcc_cfg : (s.setVcc v).cfg = s.cfg := rfl

end setVcc

section setVce
variable (s : State) (v : BitVec 8)

@[simp] theorem State.setVce_vr : (s.setVce v).vr = s.vr := rfl
@[simp] theorem State.setVce_acc : (s.setVce v).acc = s.acc := rfl
@[simp] theorem State.setVce_vco : (s.setVce v).vco = s.vco := rfl
@[simp] theorem State.setVce_vcc : (s.setVce v).vcc = s.vcc := rfl
@[simp] theorem State.setVce_vce : (s.setVce v).vce = v := rfl
@[simp] theorem State.setVce_divIn : (s.setVce v).divIn = s.divIn := rfl
@[simp] theorem State.setVce_divOut : (s.setVce v).divOut = s.divOut := rfl
@[simp] theorem State.setVce_dp : (s.setVce v).dp = s.dp := rfl
@[simp] theorem State.setVce_mem : (s.setVce v).mem = s.mem := rfl
@[simp] theorem State.setVce_sdataIn : (s.setVce v).sdataIn = s.sdataIn := rfl
@[simp] theorem State.setVce_sdataOut : (s.setVce v).sdataOut = s.sdataOut := rfl
@[simp] theorem State.setVce_commands : (s.setVce v).commands = s.commands := rfl
@[simp] theorem State.setVce_cfg : (s.setVce v).cfg = s.cfg := rfl

end setVce

section setDivIn
variable (s : State) (v : BitVec 16)

@[simp] theorem State.setDivIn_vr : (s.setDivIn v).vr = s.vr := rfl
@[simp] theorem State.setDivIn_acc : (s.setDivIn v).acc = s.acc := rfl
@[simp] theorem State.setDivIn_vco : (s.setDivIn v).vco = s.vco := rfl
@[simp] theorem State.setDivIn_vcc : (s.setDivIn v).vcc = s.vcc := rfl
@[simp] theorem State.setDivIn_vce : (s.setDivIn v).vce = s.vce := rfl
@[simp] theorem State.setDivIn_divIn : (s.setDivIn v).divIn = v := rfl
@[simp] theorem State.setDivIn_divOut : (s.setDivIn v).divOut = s.divOut := rfl
@[simp] theorem State.setDivIn_dp : (s.setDivIn v).dp = s.dp := rfl
@[simp] theorem State.setDivIn_mem : (s.setDivIn v).mem = s.mem := rfl
@[simp] theorem State.setDivIn_sdataIn : (s.setDivIn v).sdataIn = s.sdataIn := rfl
@[simp] theorem State.setDivIn_sdataOut : (s.setDivIn v).sdataOut = s.sdataOut := rfl
@[simp] theorem State.setDivIn_commands : (s.setDivIn v).commands = s.commands := rfl
@[simp] theorem State.setDivIn_cfg : (s.setDivIn v).cfg = s.cfg := rfl

end setDivIn

section setDivOut
variable (s : State) (v : BitVec 16)

@[simp] theorem State.setDivOut_vr : (s.setDivOut v).vr = s.vr := rfl
@[simp] theorem State.setDivOut_acc : (s.setDivOut v).acc = s.acc := rfl
@[simp] theorem State.setDivOut_vco : (s.setDivOut v).vco = s.vco := rfl
@[simp] theorem State.setDivOut_vcc : (s.setDivOut v).vcc = s.vcc := rfl
@[simp] theorem State.setDivOut_vce : (s.setDivOut v).vce = s.vce := rfl
@[simp] theorem State.setDivOut_divIn : (s.setDivOut v).divIn = s.divIn := rfl
@[simp] theorem State.setDivOut_divOut : (s.setDivOut v).divOut = v := rfl
@[simp] theorem State.setDivOut_dp : (s.setDivOut v).dp = s.dp := rfl
@[simp] theorem State.setDivOut_mem : (s.setDivOut v).mem = s.mem := rfl
@[simp] theorem State.setDivOut_sdataIn : (s.setDivOut v).sdataIn = s.sdataIn := rfl
@[simp] theorem State.setDivOut_sdataOut : (s.setDivOut v).sdataOut = s.sdataOut := rfl
@[simp] theorem State.setDivOut_commands : (s.setDivOut v).commands = s.commands := rfl
@[simp] theorem State.setDivOut_cfg : (s.setDivOut v).cfg = s.cfg := rfl

end setDivOut

section setDp
variable (s : State) (v : Bool)

@[simp] theorem State.setDp_vr : (s.setDp v).vr = s.vr := rfl
@[simp] theorem State.setDp_acc : (s.setDp v).acc = s.acc := rfl
@[simp] theorem State.setDp_vco : (s.setDp v).vco = s.vco := rfl
@[simp] theorem State.setDp_vcc : (s.setDp v).vcc = s.vcc := rfl
@[simp] theorem State.setDp_vce : (s.setDp v).vce = s.vce := rfl
@[simp] theorem State.setDp_divIn : (s.setDp v).divIn = s.divIn := rfl
@[simp] theorem State.setDp_divOut : (s.setDp v).divOut = s.divOut := rfl
@[simp] theorem State.setDp_dp : (s.setDp v).dp = v := rfl
@[simp] theorem State.setDp_mem : (s.setDp v).mem = s.mem := rfl
@[simp] theorem State.setDp_sdataIn : (s.setDp v).sdataIn = s.sdataIn := rfl
@[simp] theorem State.setDp_sdataOut : (s.setDp v).sdataOut = s.sdataOut := rfl
@[simp] theorem State.setDp_commands : (s.setDp v).commands = s.commands := rfl
@[simp] theorem State.setDp_cfg : (s.setDp v).cfg = s.cfg := rfl

end setDp

section setScalarOut
variable (s : State) (v : Word)

@[simp] theorem State.setScalarOut_vr : (s.setScalarOut v).vr = s.vr := rfl
@[simp] theorem State.setScalarOut_acc : (s.setScalarOut v).acc = s.acc := rfl
@[simp] theorem State.setScalarOut_vco : (s.setScalarOut v).vco = s.vco := rfl
@[simp] theorem State.setScalarOut_vcc : (s.setScalarOut v).vcc = s.vcc := rfl
@[simp] theorem State.setScalarOut_vce : (s.setScalarOut v).vce = s.vce := rfl
@[simp] theorem State.setScalarOut_divIn : (s.setScalarOut v).divIn = s.divIn := rfl
@[simp] theorem State.setScalarOut_divOut : (s.setScalarOut v).divOut = s.divOut := rfl
@[simp] theorem State.setScalarOut_dp : (s.setScalarOut v).dp = s.dp := rfl
@[simp] theorem State.setScalarOut_mem : (s.setScalarOut v).mem = s.mem := rfl
@[simp] theorem State.setScalarOut_sdataIn : (s.setScalarOut v).sdataIn = s.sdataIn := rfl
@[simp] theorem State.setScalarOut_sdataOut : (s.setScalarOut v).sdataOut = some v := rfl
@[simp] theorem State.setScalarOut_commands : (s.setScalarOut v).commands = s.commands := rfl
@[simp] theorem State.setScalarOut_cfg : (s.setScalarOut v).cfg = s.cfg := rfl

end setScalarOut

section takeCommand
variable (s : State) (c : Command) (rest : List Command)

@[simp] theorem State.takeCommand_vr : (s.takeCommand c rest).vr = s.vr := rfl
@[simp] theorem State.takeCommand_acc : (s.takeCommand c rest).acc = s.acc := rfl
@[simp] theorem State.takeCommand_vco : (s.takeCommand c rest).vco = s.vco := rfl
@[simp] theorem State.takeCommand_vcc : (s.takeCommand c rest).vcc = s.vcc := rfl
@[simp] theorem State.takeCommand_vce : (s.takeCommand c rest).vce = s.vce := rfl
@[simp] theorem State.takeCommand_divIn : (s.takeCommand c rest).divIn = s.divIn := rfl
@[simp] theorem State.takeCommand_divOut : (s.takeCommand c rest).divOut = s.divOut := rfl
@[simp] theorem State.takeCommand_dp : (s.takeCommand c rest).dp = s.dp := rfl
@[simp] theorem State.takeCommand_mem : (s.takeCommand c rest).mem = s.mem := rfl
@[simp] theorem State.takeCommand_sdataIn : (s.takeCommand c rest).sdataIn = c.sdata := rfl
@[simp] theorem State.takeCommand_sdataOut : (s.takeCommand c rest).sdataOut = none := rfl
@[simp] theorem State.takeCommand_commands : (s.takeCommand c rest).commands = rest := rfl
@[simp] theorem State.takeCommand_cfg : (s.takeCommand c rest).cfg = s.cfg := rfl

end takeCommand

end Sys2Proof.Machine
end

