-- ==== Sys2Proof/Laws/Lanes.lean ====
section
/-!
SUPPORT. What the register, accumulator and flag operations say of one lane, one plane, one byte, one bit.
-/

namespace Sys2Proof.Machine

/-! ## Vector registers -/

@[simp] theorem State.setLanes_lane (s : State) (r : Fin 32) (f : LaneIx → Lane) (i : LaneIx) :
    (s.setLanes r f).vr[r][i] = f i := by simp

theorem State.setVR_other (s : State) {r q : Fin 32} (v : VReg) (h : q ≠ r) : (s.setVR r v).vr[q] = s.vr[q] := by
  simp [Fin.val_ne_of_ne h.symm]

theorem State.setLanes_other (s : State) {r q : Fin 32} (f : LaneIx → Lane) (h : q ≠ r) :
    (s.setLanes r f).vr[q] = s.vr[q] := s.setVR_other _ h

theorem State.setLane_other (s : State) {r q : Fin 32} (i : LaneIx) (x : Lane) (h : q ≠ r) :
    (s.setLane r i x).vr[q] = s.vr[q] := s.setVR_other _ h

@[simp] theorem State.setLane_lane (s : State) (r : Fin 32) (i : LaneIx) (x : Lane) :
    (s.setLane r i x).vr[r][i] = x := by simp

theorem State.setLane_otherLane (s : State) (r : Fin 32) {i j : LaneIx} (x : Lane) (h : j ≠ i) :
    (s.setLane r i x).vr[r][j] = s.vr[r][j] := by
  simp [Fin.val_ne_of_ne h.symm]

/-! ## Accumulator -/

@[simp] theorem State.setAcc_lane (s : State) (f : LaneIx → AccLane) (i : LaneIx) : (s.setAcc f).acc[i] = f i := by simp

@[simp] theorem State.setAccLo_lane (s : State) (f : LaneIx → Lane) (i : LaneIx) :
    (s.setAccLo f).acc[i] = s.acc[i].extractLsb' 16 32 ++ f i := by simp

/-- The plane split of one lane: the low plane of `upper ++ lo` is `lo`. -/
theorem accLo_append (u : BitVec 32) (x : Lane) : accLo (u ++ x) = x := by
  ext i hi
  rw [accLo, BitVec.getElem_extractLsb', Nat.zero_add, BitVec.getLsbD_append, if_pos hi, BitVec.getLsbD_eq_getElem hi]

theorem accMd_append (a : AccLane) (x : Lane) : accMd (a.extractLsb' 16 32 ++ x) = accMd a := by
  ext i hi
  simp only [accMd, BitVec.getElem_extractLsb', BitVec.getLsbD_append, BitVec.getLsbD_extractLsb']
  simp; omega

theorem accHi_append (a : AccLane) (x : Lane) : accHi (a.extractLsb' 16 32 ++ x) = accHi a := by
  ext i hi
  simp only [accHi, BitVec.getElem_extractLsb', BitVec.getLsbD_append, BitVec.getLsbD_extractLsb']
  simp [show ¬ 32 + i < 16 by omega, show 32 + i - 16 < 32 by omega, show 16 + (32 + i - 16) = 32 + i by omega]

/-- `ACC_LO[i] <- v` sets the low plane (R26). -/
@[simp] theorem State.setAccLo_accLo (s : State) (f : LaneIx → Lane) (i : LaneIx) :
    accLo (s.setAccLo f).acc[i] = f i := by rw [State.setAccLo_lane, accLo_append]

/-- ... and keeps the middle one. -/
@[simp] theorem State.setAccLo_accMd (s : State) (f : LaneIx → Lane) (i : LaneIx) :
    accMd (s.setAccLo f).acc[i] = accMd s.acc[i] := by rw [State.setAccLo_lane, accMd_append]

/-- ... and the high one. -/
@[simp] theorem State.setAccLo_accHi (s : State) (f : LaneIx → Lane) (i : LaneIx) :
    accHi (s.setAccLo f).acc[i] = accHi s.acc[i] := by rw [State.setAccLo_lane, accHi_append]

/-! ## Flags -/

@[simp] theorem packHalf_bit (f : LaneIx → Bool) (i : LaneIx) : (packHalf f).getLsbD i.val = f i := by
  simp [packHalf]

/-- Bit `i` of a flag register is lane `i` of its low half (R21). -/
@[simp] theorem packFlags_low (lo hi : LaneIx → Bool) (i : LaneIx) : (packFlags lo hi).getLsbD i.val = lo i := by
  rw [packFlags, BitVec.getLsbD_append, if_pos i.isLt, packHalf_bit]

/-- Bit `8 + i` is lane `i` of its high half (R27, R28). -/
@[simp] theorem packFlags_high (lo hi : LaneIx → Bool) (i : LaneIx) : (packFlags lo hi).getLsbD (8 + i.val) = hi i := by
  rw [packFlags, BitVec.getLsbD_append, if_neg (by omega), Nat.add_sub_cancel_left, packHalf_bit]

/-! ## Register bytes (R22) -/

/-- The upper byte of two. -/
theorem upper_append (x y : Byte) : (x ++ y : BitVec 16).extractLsb' 8 8 = x := by
  ext i hi
  rw [BitVec.getElem_extractLsb', BitVec.getLsbD_append, if_neg (by omega), Nat.add_sub_cancel_left,
    BitVec.getLsbD_eq_getElem hi]

/-- The lower byte of two. -/
theorem lower_append (x y : Byte) : (x ++ y : BitVec 16).extractLsb' 0 8 = y := by
  ext i hi
  rw [BitVec.getElem_extractLsb', Nat.zero_add, BitVec.getLsbD_append, if_pos hi, BitVec.getLsbD_eq_getElem hi]

/-- A lane is its two bytes. -/
theorem append_bytes (x : Lane) : (x.extractLsb' 8 8 ++ x.extractLsb' 0 8 : BitVec 16) = x := by
  ext i hi
  rw [BitVec.getElem_append]
  split <;> rename_i h
  · rw [BitVec.getElem_extractLsb', Nat.zero_add, BitVec.getLsbD_eq_getElem hi]
  · rw [BitVec.getElem_extractLsb', show 8 + (i - 8) = i by omega, BitVec.getLsbD_eq_getElem hi]

/-- The bytes of the register made from bytes are those bytes. -/
@[simp] theorem regByte_regOfBytes (f : Fin 16 → Byte) (k : Fin 16) : regByte (regOfBytes f) k = f k := by
  rcases Nat.mod_two_eq_zero_or_one k.val with h | h
  · have e : (⟨2 * (k.val / 2), by omega⟩ : Fin 16) = k := Fin.ext (by simp; omega)
    simp only [regByte, h, if_true, regOfBytes, Vector.getElem_ofFn, e]
    exact upper_append _ _
  · have e : (⟨2 * (k.val / 2) + 1, by omega⟩ : Fin 16) = k := Fin.ext (by simp; omega)
    simp only [regByte, h, regOfBytes, Vector.getElem_ofFn, e]
    exact lower_append _ _

/-- A register is the register made from its bytes. -/
@[simp] theorem regOfBytes_regByte (v : VReg) : regOfBytes (regByte v) = v := by
  apply Vector.ext
  intro i hi
  have h1 : 2 * i % 2 = 0 := by omega
  have h2 : (2 * i + 1) % 2 = 1 := by omega
  have h3 : 2 * i / 2 = i := by omega
  have h4 : (2 * i + 1) / 2 = i := by omega
  simp only [regOfBytes, Vector.getElem_ofFn, regByte, h1, h2, h3, h4, if_true]
  exact append_bytes _

/-- Two registers with the same bytes are one register. -/
theorem reg_ext {u v : VReg} (h : ∀ k, regByte u k = regByte v k) : u = v := by
  rw [← regOfBytes_regByte u, ← regOfBytes_regByte v, show regByte u = regByte v from funext h]

/-- A byte of a register after a merge: the merged one inside the run, the old one outside (R140). -/
theorem regByte_mergeBytes (v : VReg) (start : Nat) (bytes : List Byte) (k : Fin 16) :
    regByte (mergeBytes v start bytes) k =
      if start ≤ k.val ∧ k.val < start + bytes.length then bytes.getD (k.val - start) 0#8 else regByte v k := by
  rw [mergeBytes, regByte_regOfBytes]

/-- Merging no bytes changes nothing. -/
@[simp] theorem mergeBytes_nil (v : VReg) (start : Nat) : mergeBytes v start [] = v :=
  reg_ext fun k => by rw [regByte_mergeBytes, if_neg (by simp)]

end Sys2Proof.Machine
end

