-- ==== Sys2Proof/Laws/Memory.lean ====
section
/-!
SUPPORT. The memory's laws: every write keeps the canonical form and the bounds, a byte written is the byte read, every
other byte is as it was.
-/

namespace Sys2Proof.Machine

/-- A write keeps the canonical form above any address below the one written. -/
theorem Memory.wfFrom_write {m : List Host.Cell} {lo : Option Nat} {a : Nat} {b : Byte}
    (h : Memory.wfFrom lo m = true) (ha : ∀ l ∈ lo, l < a) : Memory.wfFrom lo (Memory.write m a b) = true := by
  induction m generalizing lo with
  | nil =>
    by_cases hb : b = Memory.unlisted
    · simp [Memory.write, hb, Memory.wfFrom]
    · simpa [Memory.write, hb, Memory.wfFrom] using ha
  | cons c m ih =>
    simp only [Memory.wfFrom, Bool.and_eq_true, decide_eq_true_eq] at h
    obtain ⟨⟨hlo, hc⟩, hm⟩ := h
    simp only [Memory.write]
    split_ifs with h1 hb h2 hb
    · simp [Memory.wfFrom, hm, hc]; simpa using hlo
    · simp [Memory.wfFrom, hm, hc, hb, h1]; simpa using ha
    · cases m with
      | nil => simp [Memory.wfFrom]
      | cons d m =>
        simp only [Memory.wfFrom, Bool.and_eq_true, decide_eq_true_eq] at hm ⊢
        refine ⟨⟨fun l hl => ?_, hm.1.2⟩, hm.2⟩
        have h3 := hlo l hl
        have h4 := hm.1.1 c.1 rfl
        omega
    · subst h2; simp [Memory.wfFrom, hm, hb]; simpa using hlo
    · simp only [Memory.wfFrom, Bool.and_eq_true, decide_eq_true_eq]
      exact ⟨⟨hlo, hc⟩, ih hm (by simp; omega)⟩

/-- A write keeps the canonical form. -/
theorem Memory.wf_write {m : List Host.Cell} {a : Nat} {b : Byte} (h : Memory.wf m = true) :
    Memory.wf (Memory.write m a b) = true :=
  Memory.wfFrom_write h (by simp)

/-- So does a list of writes. -/
theorem Memory.wf_writeAll {cs : List Host.Cell} : ∀ {m : List Host.Cell}, Memory.wf m = true →
    Memory.wf (Memory.writeAll m cs) = true := by
  induction cs with
  | nil => exact fun h => h
  | cons c cs ih => exact fun h => ih (Memory.wf_write h)

/-- No byte below the first listed address is listed. -/
theorem Memory.read_of_wfFrom {m : List Host.Cell} {l a : Nat} (h : Memory.wfFrom (some l) m = true) (ha : a ≤ l) :
    Memory.read m a = Memory.unlisted := by
  cases m with
  | nil => rfl
  | cons c m =>
    simp only [Memory.wfFrom, Bool.and_eq_true, decide_eq_true_eq, Option.mem_some_iff, forall_eq'] at h
    have : a < c.1 := lt_of_le_of_lt ha h.1.1
    simp [Memory.read, this]

/-- The byte written is the byte read. -/
theorem Memory.read_write_same {m : List Host.Cell} {lo : Option Nat} {a : Nat} {b : Byte}
    (h : Memory.wfFrom lo m = true) : Memory.read (Memory.write m a b) a = b := by
  induction m generalizing lo with
  | nil => by_cases hb : b = Memory.unlisted <;> simp [Memory.write, Memory.read, hb]
  | cons c m ih =>
    simp only [Memory.wfFrom, Bool.and_eq_true, decide_eq_true_eq] at h
    simp only [Memory.write]
    split_ifs with h1 hb h2 hb
    · simp [Memory.read, h1, hb]
    · simp [Memory.read]
    · rw [hb]; exact Memory.read_of_wfFrom h.2 (le_of_eq h2)
    · simp [Memory.read]
    · simp [Memory.read, h1, h2, ih h.2]

/-- Every other byte is as it was. -/
theorem Memory.read_write_other {m : List Host.Cell} {lo : Option Nat} {a a' : Nat} {b : Byte}
    (h : Memory.wfFrom lo m = true) (hne : a' ≠ a) : Memory.read (Memory.write m a b) a' = Memory.read m a' := by
  induction m generalizing lo with
  | nil =>
    by_cases hb : b = Memory.unlisted
    · simp [Memory.write, hb]
    · by_cases h1 : a' < a <;> simp [Memory.write, Memory.read, hb, h1, hne]
  | cons c m ih =>
    simp only [Memory.wfFrom, Bool.and_eq_true, decide_eq_true_eq] at h
    simp only [Memory.write]
    split_ifs with h1 hb h2 hb
    · rfl
    · by_cases h3 : a' < a
      · have : a' < c.1 := lt_trans h3 h1
        simp [Memory.read, h3, this]
      · simp [Memory.read, h3, hne]
    · by_cases h3 : a' < c.1
      · simp [Memory.read, h3, Memory.read_of_wfFrom h.2 (le_of_lt h3)]
      · have : a' ≠ c.1 := h2 ▸ hne
        simp [Memory.read, h3, this]
    · subst h2; simp [Memory.read, hne]
    · simp [Memory.read, ih h.2]

/-- A list of writes leaves the bytes it does not name. -/
theorem Memory.read_writeAll_other {cs : List Host.Cell} {a : Nat} (hne : ∀ c ∈ cs, c.1 ≠ a) :
    ∀ {m : List Host.Cell}, Memory.wf m = true → Memory.read (Memory.writeAll m cs) a = Memory.read m a := by
  induction cs with
  | nil => exact fun _ => rfl
  | cons c cs ih =>
    intro m h
    rw [Memory.writeAll, ih (fun d hd => hne d (by simp [hd])) (Memory.wf_write h)]
    exact Memory.read_write_other h (hne c (by simp)).symm

/-- A list of writes to different addresses stores every byte. -/
theorem Memory.read_writeAll_mem {cs : List Host.Cell} (hd : (cs.map Prod.fst).Nodup) {c : Host.Cell} (hc : c ∈ cs) :
    ∀ {m : List Host.Cell}, Memory.wf m = true → Memory.read (Memory.writeAll m cs) c.1 = c.2 := by
  induction cs with
  | nil => simp at hc
  | cons d cs ih =>
    intro m h
    simp only [List.map_cons, List.nodup_cons, List.mem_map, not_exists, not_and] at hd
    rw [Memory.writeAll]
    rcases List.mem_cons.mp hc with rfl | hc
    · rw [Memory.read_writeAll_other (fun x hx => hd.1 x hx) (Memory.wf_write h)]
      exact Memory.read_write_same h
    · exact ih hd.2 hc (Memory.wf_write h)

/-- Every byte listed after a write was listed before it or is the one written. -/
theorem Memory.mem_write {m : List Host.Cell} {a : Nat} {x : Byte} {d : Host.Cell} (h : d ∈ Memory.write m a x) :
    d ∈ m ∨ d = (a, x) := by
  induction m with
  | nil =>
    by_cases hx : x = Memory.unlisted
    · simp [Memory.write, hx] at h
    · simp only [Memory.write, hx, if_false, List.mem_singleton] at h; exact .inr h
  | cons c m ih =>
    simp only [Memory.write] at h
    split_ifs at h
    · exact .inl h
    · exact (List.mem_cons.mp h).elim .inr .inl
    · exact .inl (List.mem_cons_of_mem _ h)
    · exact (List.mem_cons.mp h).elim .inr fun h => .inl (List.mem_cons_of_mem _ h)
    · rcases List.mem_cons.mp h with h | h
      · exact .inl (h ▸ List.mem_cons_self)
      · exact (ih h).imp (List.mem_cons_of_mem _) id

/-- A write of a byte that the bus has keeps every listed byte one that the bus has. -/
theorem Memory.within_write {b : Bus} {m : List Host.Cell} {a : Nat} {x : Byte} (h : Memory.within b m)
    (ha : ∃ w : Word, busIndex b w = a) : Memory.within b (Memory.write m a x) :=
  fun d hd => (Memory.mem_write hd).elim (h d) fun e => e ▸ ha

/-- So do a list of writes. -/
theorem Memory.within_writeAll {b : Bus} {cs : List Host.Cell} (hcs : ∀ c ∈ cs, ∃ w : Word, busIndex b w = c.1) :
    ∀ {m : List Host.Cell}, Memory.within b m → Memory.within b (Memory.writeAll m cs) := by
  induction cs with
  | nil => exact fun h => h
  | cons c cs ih =>
    exact fun h => ih (fun d hd => hcs d (by simp [hd])) (Memory.within_write h (hcs c (by simp)))

end Sys2Proof.Machine
end

