-- ==== Sys2Proof/Laws/Bus.lean ====
section
/-!
SUPPORT. What a bus transaction can do, what a load and a store do when the bus accepts and when it refuses, and that the
addresses of one transaction are different bytes of memory; and that the bus of the configuration can be any bus that the
spec allows.
-/

namespace Sys2Proof.Machine

/-! ## Address lists -/

@[simp] theorem length_consecutive (a : Word) (n : Nat) : (consecutive a n).length = n := by simp [consecutive]

@[simp] theorem consecutive_zero (a : Word) : consecutive a 0 = [] := rfl

theorem getElem_consecutive (a : Word) (n k : Nat) (h : k < (consecutive a n).length) :
    (consecutive a n)[k] = a + BitVec.ofNat 32 k := by simp [consecutive]

theorem mem_consecutive {a x : Word} {n : Nat} : x ∈ consecutive a n ↔ ∃ k, k < n ∧ x = a + BitVec.ofNat 32 k := by
  simp only [consecutive, List.mem_map, List.mem_range, eq_comm]

@[simp] theorem length_packedAddrs (a : Word) (e : Fin 16) : (packedAddrs a e).length = 8 := by simp [packedAddrs]

/-- The bytes of a run of up to sixteen addresses are different bytes of memory. -/
theorem nodup_consecutive {b : Bus} (hb : busWf b) (a : Word) {n : Nat} (hn : n ≤ 16) :
    ((consecutive a n).map (busIndex b)).Nodup := by
  rw [consecutive, List.map_map]
  refine List.Nodup.map_on (fun j hj k hk h => ?_) List.nodup_range
  rw [List.mem_range] at hj hk
  exact hb a j k (by omega) (by omega) h

/-- A bus without exceptional places takes an address mod its size. -/
@[simp] theorem busIndex_of_noPlaces {b : Bus} (h : b.places = []) (a : Word) : busIndex b a = a.toNat % b.size := by
  simp [busIndex, h]

/-- A bus of a size that is a power of two, sixteen or more, tells sixteen neighbours apart. -/
theorem busWf_of_pow {b : Bus} {n : Nat} (h4 : 4 ≤ n) (hs : b.size = 2 ^ n) (hp : b.places = []) :
    busWf b := by
  intro a j k hj hk h
  rw [busIndex_of_noPlaces hp, busIndex_of_noPlaces hp, hs] at h
  simp only [BitVec.toNat_add, BitVec.toNat_ofNat] at h
  have h16 : (16 : Nat) ∣ 2 ^ n := Nat.pow_dvd_pow 2 h4
  have h1 := congrArg (· % 16) h
  simp only [Nat.mod_mod_of_dvd _ h16] at h1
  omega

/-! ## Refusal -/

/-- An address of a refused range. -/
theorem mem_refusedAddrs {ranges : List AddrRange} {addrs : List Word} {a : Word} :
    a ∈ refusedAddrs ranges addrs ↔ a ∈ addrs ∧ ∃ r ∈ ranges, r.lo ≤ a.toNat ∧ a.toNat < r.hi := by
  simp [refusedAddrs]

/-- Everything the lowest address of a list can be. -/
theorem lowestAddr_spec (l : List Word) :
    (lowestAddr l = none ↔ l = []) ∧ ∀ a, lowestAddr l = some a → a ∈ l ∧ ∀ c ∈ l, a.toNat ≤ c.toNat := by
  induction l with
  | nil => simp [lowestAddr]
  | cons a l ih =>
    simp only [lowestAddr]
    cases h : lowestAddr l with
    | none => simp [ih.1.mp h]
    | some c =>
      have hc := ih.2 c h
      dsimp only
      split_ifs with hlt <;> refine ⟨by simp, fun d hd => Option.some.inj hd ▸ ⟨by simp [hc.1], fun x hx => ?_⟩⟩ <;>
        rcases List.mem_cons.mp hx with rfl | hx
      · exact hlt.le
      · exact hc.2 x hx
      · exact le_rfl
      · have := hc.2 x hx; omega

/-- The address a bus reports is one of the transaction's. -/
theorem mem_of_busRefusal {b : Bus} {acc : Access} {addrs : List Word} {a : Word}
    (h : busRefusal b acc addrs = some a) : a ∈ addrs := by
  rw [busRefusal] at h
  split at h
  · next x hx =>
    have := List.find?_some hx
    simp only [answerIsFor, h, Option.all_some, Bool.and_eq_true, decide_eq_true_eq] at this
    exact this.2
  · exact (mem_refusedAddrs.mp ((lowestAddr_spec _).2 a h).1).1

/-- A transaction of no bytes is never refused. -/
@[simp] theorem busRefusal_nil (b : Bus) (acc : Access) : busRefusal b acc [] = none :=
  Option.eq_none_iff_forall_ne_some.mpr fun _ h => by simpa using mem_of_busRefusal h

/-- Where no answer is set down by itself, the refused ranges decide. -/
theorem busRefusal_of_noAnswers {b : Bus} (h : b.answers = []) (acc : Access) (addrs : List Word) :
    busRefusal b acc addrs = lowestAddr (refusedAddrs (refusedRanges b acc) addrs) := by simp [busRefusal, h]

/-- The recommended bus refuses nothing (R53). -/
@[simp] theorem busRefusal_recommended (acc : Access) (addrs : List Word) :
    busRefusal Bus.recommended acc addrs = none := by
  rw [busRefusal_of_noAnswers rfl, (lowestAddr_spec _).1, List.eq_nil_iff_forall_not_mem]
  cases acc <;> simp [mem_refusedAddrs, refusedRanges, Bus.recommended]

/-! ## Every bus (R18) -/

/-- A list of answers with one for every transaction of a list, and no other, answers those as it should. -/
theorem find_answer {T : List (Access × List Word)} {refuse : Access → List Word → Option Word} {acc : Access}
    {l : List Word} (hl : ∀ a, refuse acc l = some a → a ∈ l) (hT : (acc, l) ∈ T) :
    ((T.map fun x => (⟨x.1, x.2, refuse x.1 x.2⟩ : BusAnswer)).find? fun x => answerIsFor x acc l)
      = some ⟨acc, l, refuse acc l⟩ := by
  cases hf : ((T.map fun x => (⟨x.1, x.2, refuse x.1 x.2⟩ : BusAnswer)).find? fun x => answerIsFor x acc l) with
  | none =>
    have := List.find?_eq_none.mp hf _ (List.mem_map_of_mem hT)
    simp only [answerIsFor, decide_true, Bool.true_and] at this
    exact absurd (Option.all_eq_true _ _ |>.mpr fun a ha => decide_eq_true (hl a ha)) this
  | some x =>
    have h1 := List.find?_some hf
    obtain ⟨y, -, rfl⟩ := List.mem_map.mp (List.mem_of_find?_eq_some hf)
    simp only [answerIsFor, Bool.and_eq_true, decide_eq_true_eq] at h1
    obtain ⟨⟨rfl, rfl⟩, -⟩ := h1
    rfl

/-- A lookup in the graph of a function. -/
theorem lookup_graph (f : Word → Nat) (a : Word) : ∀ {L : List Word}, a ∈ L → (L.map fun x => (x, f x)).lookup a = some (f a)
  | x :: L, h => by
    simp only [List.map_cons, List.lookup_cons]
    by_cases hx : a = x
    · simp [hx]
    · simp only [beq_eq_false_iff_ne.mpr hx]
      exact lookup_graph f a ((List.mem_cons.mp h).resolve_left hx)

/-- The configuration's bus can be any bus of R51: whichever byte each address names, whichever transactions of up to sixteen
addresses fault, and whichever of its addresses each reports (R18, R249, U4). -/
theorem exists_bus (cell : Word → Nat) (refuse : Access → List Word → Option Word)
    (hr : ∀ acc l a, refuse acc l = some a → a ∈ l) :
    ∃ b : Bus, (∀ a, busIndex b a = cell a) ∧ ∀ acc l, l.length ≤ 16 → busRefusal b acc l = refuse acc l := by
  obtain ⟨L, hL⟩ : ∃ L : List Word, ∀ a, a ∈ L := ⟨(Set.toFinite (Set.univ : Set Word)).toFinset.toList, by simp⟩
  obtain ⟨T, hT⟩ : ∃ T : List (List Word), ∀ l : List Word, l.length ≤ 16 → l ∈ T :=
    ⟨(List.finite_length_le Word 16).toFinset.toList, by simp⟩
  refine ⟨⟨0, L.map fun a => (a, cell a), [], [], (T.flatMap fun l => [(Access.read, l), (.write, l)]).map
    fun x => ⟨x.1, x.2, refuse x.1 x.2⟩⟩, fun a => ?_, fun acc l hl => ?_⟩
  · simp only [busIndex, lookup_graph cell a (hL a), Option.getD_some]
  · have hm : (acc, l) ∈ T.flatMap fun l => [(Access.read, l), (Access.write, l)] :=
      List.mem_flatMap.mpr ⟨l, hT l hl, by cases acc <;> simp⟩
    simp only [busRefusal, find_answer (hr acc l) hm]

/-! ## Loads and stores -/

/-- The memory after the bytes are stored. -/
def storedMem (s : State) (addrs : List Word) (bytes : List Byte) : List Host.Cell :=
  Memory.writeAll s.mem ((addrs.map (busIndex s.cfg.bus)).zip bytes)

/-- A load the bus accepts writes one register. -/
theorem loadReg_accepted {vt : Fin 32} {addrs : List Word} {f : List Byte → VReg} {s : State}
    (h : busRefusal s.cfg.bus .read addrs = none) :
    loadReg vt addrs f s = .next (s.setVR vt (f (addrs.map s.readByte))) := by
  simp [loadReg, State.memReadV, h]

/-- A load the bus refuses ends in the bus fault. -/
theorem loadReg_refused {vt : Fin 32} {addrs : List Word} {f : List Byte → VReg} {s : State} {a : Word}
    (h : busRefusal s.cfg.bus .read addrs = some a) :
    loadReg vt addrs f s = .fault (.busFault a) := by
  simp [loadReg, State.memReadV, h, raiseBusFault]

/-- A store the bus accepts changes memory and nothing else. -/
theorem storeReg_accepted {addrs : List Word} {bytes : List Byte} {s : State}
    (h : busRefusal s.cfg.bus .write addrs = none) :
    storeReg addrs bytes s = .next { s with mem := storedMem s addrs bytes } := by
  simp [storeReg, State.memWriteV, h, storedMem]

/-- A store the bus refuses ends in the bus fault. -/
theorem storeReg_refused {addrs : List Word} {bytes : List Byte} {s : State} {a : Word}
    (h : busRefusal s.cfg.bus .write addrs = some a) :
    storeReg addrs bytes s = .fault (.busFault a) := by
  simp [storeReg, State.memWriteV, h, raiseBusFault]

/-- Everything a load can do. -/
theorem loadReg_next {vt : Fin 32} {addrs : List Word} {f : List Byte → VReg} {s t : State}
    (h : loadReg vt addrs f s = .next t) :
    busRefusal s.cfg.bus .read addrs = none ∧ t = s.setVR vt (f (addrs.map s.readByte)) := by
  cases hb : busRefusal s.cfg.bus .read addrs with
  | none => rw [loadReg_accepted hb] at h; cases h; exact ⟨rfl, rfl⟩
  | some a => rw [loadReg_refused hb] at h; cases h

/-- Everything a store can do. -/
theorem storeReg_next {addrs : List Word} {bytes : List Byte} {s t : State} (h : storeReg addrs bytes s = .next t) :
    busRefusal s.cfg.bus .write addrs = none ∧ t = { s with mem := storedMem s addrs bytes } := by
  cases hb : busRefusal s.cfg.bus .write addrs with
  | none => rw [storeReg_accepted hb] at h; cases h; exact ⟨rfl, rfl⟩
  | some a => rw [storeReg_refused hb] at h; cases h

/-- Storing keeps the invariant. -/
theorem inv_storedMem {s : State} (h : s.Inv) (addrs : List Word) (bytes : List Byte) :
    ({ s with mem := storedMem s addrs bytes } : State).Inv where
  canonical := Memory.wf_writeAll h.canonical
  within := Memory.within_writeAll (fun _ hc =>
    have ⟨a, _, ha⟩ := List.mem_map.mp (List.of_mem_zip hc).1; ⟨a, ha⟩) h.within
  bus := h.bus

/-- A canonical memory inside a bus that takes an address mod a power of two meets the invariant. -/
theorem inv_of_pow {s : State} (n : Nat) (h4 : 4 ≤ n) (h32 : n ≤ 32) (hs : s.cfg.bus.size = 2 ^ n)
    (hp : s.cfg.bus.places = []) (hm : Memory.wf s.mem = true) (hw : ∀ c ∈ s.mem, c.1 < 2 ^ n) : s.Inv where
  canonical := hm
  within := fun c hc => ⟨BitVec.ofNat 32 c.1, by
    have h1 := hw c hc
    have h2 : (2 : Nat) ^ n ≤ 2 ^ 32 := Nat.pow_le_pow_right (by omega) h32
    rw [busIndex_of_noPlaces hp, hs, BitVec.toNat_ofNat, Nat.mod_eq_of_lt (by omega : c.1 < 2 ^ 32), Nat.mod_eq_of_lt h1]⟩
  bus := busWf_of_pow h4 hs hp

/-- A byte that no address of the store names is as it was. -/
theorem readByte_stored_other {s : State} (h : s.Inv) {addrs : List Word} (bytes : List Byte) {a : Word}
    (ha : ∀ x ∈ addrs, busIndex s.cfg.bus a ≠ busIndex s.cfg.bus x) :
    ({ s with mem := storedMem s addrs bytes } : State).readByte a = s.readByte a := by
  refine Memory.read_writeAll_other (fun c hc => ?_) h.canonical
  obtain ⟨x, hx, hxc⟩ := List.mem_map.mp (List.of_mem_zip hc).1
  exact fun e => ha x hx (by rw [hxc, e])

theorem zip_fst_sublist {α β : Type} : ∀ (l : List α) (m : List β), ((l.zip m).map Prod.fst).Sublist l
  | [], _ => by simp
  | _ :: _, [] => by simp
  | a :: l, b :: m => by simpa using (zip_fst_sublist l m)

/-- The bytes stored are the bytes read. -/
theorem readByte_stored {s : State} (h : s.Inv) {addrs : List Word} {bytes : List Byte}
    (hd : (addrs.map (busIndex s.cfg.bus)).Nodup) {k : Nat} (ha : k < addrs.length) (hk : k < bytes.length) :
    ({ s with mem := storedMem s addrs bytes } : State).readByte addrs[k] = bytes[k] := by
  have hz : (((addrs.map (busIndex s.cfg.bus)).zip bytes).map Prod.fst).Nodup :=
    hd.sublist (zip_fst_sublist _ _)
  have hm : (busIndex s.cfg.bus addrs[k], bytes[k]) ∈ (addrs.map (busIndex s.cfg.bus)).zip bytes := by
    rw [List.mem_iff_getElem]
    exact ⟨k, by simp; omega, by simp⟩
  exact Memory.read_writeAll_mem hz hm h.canonical

end Sys2Proof.Machine
end

