-- ==== Sys2Proof/Laws/Decode.lean ====
section
/-!
SUPPORT. The fields of an encoded word, one lemma per field and format, and the encoders in the spec's own form: the fields
joined by `|` (30_encoding.md R72 to R74).
-/

namespace Sys2Proof

theorem field_ofNat {n : Nat} (h : n < 2 ^ 32) (lo k : Nat) : field (BitVec.ofNat 32 n) lo k = n / 2 ^ lo % 2 ^ k := by
  rw [field, BitVec.toNat_ofNat, Nat.mod_eq_of_lt h]

/-! ## Format V -/

section encodeV3
variable {f : Nat} (hf : f < 64) (o : V3)
include hf

theorem encodeV3_lt : 0x4A000000 + o.e.val * 2 ^ 21 + o.vt.val * 2 ^ 16 + o.vs.val * 2 ^ 11 + o.vd.val * 2 ^ 6 + f < 2 ^ 32 := by
  omega

theorem op_encodeV3 : field (encodeV3 f o) 26 6 = 0x12 := by rw [encodeV3, field_ofNat (encodeV3_lt hf o)]; omega

theorem co_encodeV3 : field (encodeV3 f o) 25 1 = 1 := by rw [encodeV3, field_ofNat (encodeV3_lt hf o)]; omega

theorem funct_encodeV3 : field (encodeV3 f o) 0 6 = f := by rw [encodeV3, field_ofNat (encodeV3_lt hf o)]; omega

/-- The operands of an encoded three-register word. -/
theorem ofWord_encodeV3 : V3.ofWord (encodeV3 f o) = o := by
  have h := encodeV3_lt hf o
  obtain ⟨vd, vs, vt, e⟩ := o
  simp only [V3.ofWord, regField, elemField, encodeV3, field_ofNat h, V3.mk.injEq, Fin.ext_iff, Fin.val_ofNat]
  refine ⟨?_, ?_, ?_, ?_⟩ <;> omega

end encodeV3

section encodeV1
variable {f : Nat} (hf : f < 64) (o : V1)
include hf

theorem encodeV1_lt : 0x4A000000 + o.e.val * 2 ^ 21 + o.vt.val * 2 ^ 16 + o.de.val * 2 ^ 11 + o.vd.val * 2 ^ 6 + f < 2 ^ 32 := by
  omega

theorem op_encodeV1 : field (encodeV1 f o) 26 6 = 0x12 := by rw [encodeV1, field_ofNat (encodeV1_lt hf o)]; omega

theorem co_encodeV1 : field (encodeV1 f o) 25 1 = 1 := by rw [encodeV1, field_ofNat (encodeV1_lt hf o)]; omega

theorem funct_encodeV1 : field (encodeV1 f o) 0 6 = f := by rw [encodeV1, field_ofNat (encodeV1_lt hf o)]; omega

/-- The operands of an encoded single-lane word. -/
theorem ofWord_encodeV1 : V1.ofWord (encodeV1 f o) = o := by
  have h := encodeV1_lt hf o
  obtain ⟨vd, de, vt, e⟩ := o
  simp only [V1.ofWord, regField, elemField, encodeV1, field_ofNat h, V1.mk.injEq, Fin.ext_iff, Fin.val_ofNat]
  refine ⟨?_, ?_, ?_, ?_⟩ <;> omega

end encodeV1

section encodeVPlane
variable {f : Nat} (hf : f < 64) (o : VPlane)
include hf

theorem encodeVPlane_lt : 0x4A000000 + o.e.val * 2 ^ 21 + o.vd.val * 2 ^ 6 + f < 2 ^ 32 := by omega

theorem op_encodeVPlane : field (encodeVPlane f o) 26 6 = 0x12 := by
  rw [encodeVPlane, field_ofNat (encodeVPlane_lt hf o)]; omega

theorem co_encodeVPlane : field (encodeVPlane f o) 25 1 = 1 := by
  rw [encodeVPlane, field_ofNat (encodeVPlane_lt hf o)]; omega

theorem funct_encodeVPlane : field (encodeVPlane f o) 0 6 = f := by
  rw [encodeVPlane, field_ofNat (encodeVPlane_lt hf o)]; omega

/-- The operands of an encoded VSAR word. -/
theorem ofWord_encodeVPlane : VPlane.ofWord (encodeVPlane f o) = o := by
  have h := encodeVPlane_lt hf o
  obtain ⟨vd, e⟩ := o
  simp only [VPlane.ofWord, regField, elemField, encodeVPlane, field_ofNat h, VPlane.mk.injEq, Fin.ext_iff, Fin.val_ofNat]
  refine ⟨?_, ?_⟩ <;> omega

end encodeVPlane

/-! ## Format LS -/

/-- The offset field of an offset is its low seven bits. -/
theorem offset_mod (z : Int) : (z % 128).toNat < 128 := by omega

section encodeLS
variable {w sub : Nat} (hw : w = 0xC8000000 ∨ w = 0xE8000000) (hs : sub < 32) (o : LS)
include hw hs

theorem encodeLS_lt : w + o.base.val * 2 ^ 21 + o.vt.val * 2 ^ 16 + sub * 2 ^ 11 + o.e.val * 2 ^ 7
    + (o.offset % 128).toNat < 2 ^ 32 := by
  have := offset_mod o.offset
  omega

theorem op_encodeLS : field (encodeLS w sub o) 26 6 = w / 2 ^ 26 := by
  have := offset_mod o.offset
  rw [encodeLS, field_ofNat (encodeLS_lt hw hs o)]; omega

theorem sub_encodeLS : field (encodeLS w sub o) 11 5 = sub := by
  have := offset_mod o.offset
  rw [encodeLS, field_ofNat (encodeLS_lt hw hs o)]; omega

/-- The operands of an encoded load or store: its offset must fit the field. -/
theorem ofWord_encodeLS (ho : o.wf = true) : LS.ofWord (encodeLS w sub o) = o := by
  have h := encodeLS_lt hw hs o
  have h7 := offset_mod o.offset
  obtain ⟨base, vt, e, offset⟩ := o
  simp only [LS.wf, decide_eq_true_eq] at ho
  simp only [LS.ofWord, offsetField, regField, elemField, encodeLS, field_ofNat h, LS.mk.injEq, Fin.ext_iff, Fin.val_ofNat]
  simp only at h7
  refine ⟨?_, ?_, ?_, ?_⟩
  · omega
  · omega
  · omega
  · split <;> omega

end encodeLS

/-! ## Format M -/

section encodeMV
variable {sel : Nat} (hs : sel < 16) (o : MV)
include hs

theorem encodeMV_lt : 0x48000000 + sel * 2 ^ 21 + o.rt.val * 2 ^ 16 + o.rd.val * 2 ^ 11 + o.e.val * 2 ^ 7 < 2 ^ 32 := by
  omega

theorem op_encodeMV : field (encodeMV sel o) 26 6 = 0x12 := by rw [encodeMV, field_ofNat (encodeMV_lt hs o)]; omega

theorem co_encodeMV : field (encodeMV sel o) 25 1 = 0 := by rw [encodeMV, field_ofNat (encodeMV_lt hs o)]; omega

theorem sel_encodeMV : field (encodeMV sel o) 21 5 = sel := by rw [encodeMV, field_ofNat (encodeMV_lt hs o)]; omega

/-- The operands of an encoded MFC2 or MTC2. -/
theorem ofWord_encodeMV : MV.ofWord (encodeMV sel o) = o := by
  have h := encodeMV_lt hs o
  obtain ⟨rt, rd, e⟩ := o
  simp only [MV.ofWord, regField, elemField, encodeMV, field_ofNat h, MV.mk.injEq, Fin.ext_iff, Fin.val_ofNat]
  refine ⟨?_, ?_, ?_⟩ <;> omega

end encodeMV

section encodeMC
variable {sel : Nat} (hs : sel < 16) (o : MC)
include hs

theorem encodeMC_lt : 0x48000000 + sel * 2 ^ 21 + o.rt.val * 2 ^ 16 + o.c.val * 2 ^ 11 < 2 ^ 32 := by omega

theorem op_encodeMC : field (encodeMC sel o) 26 6 = 0x12 := by rw [encodeMC, field_ofNat (encodeMC_lt hs o)]; omega

theorem co_encodeMC : field (encodeMC sel o) 25 1 = 0 := by rw [encodeMC, field_ofNat (encodeMC_lt hs o)]; omega

theorem sel_encodeMC : field (encodeMC sel o) 21 5 = sel := by rw [encodeMC, field_ofNat (encodeMC_lt hs o)]; omega

/-- The operands of an encoded CFC2 or CTC2. -/
theorem ofWord_encodeMC : MC.ofWord (encodeMC sel o) = o := by
  have h := encodeMC_lt hs o
  obtain ⟨rt, c⟩ := o
  simp only [MC.ofWord, regField, encodeMC, field_ofNat h, MC.mk.injEq, Fin.ext_iff, Fin.val_ofNat]
  refine ⟨?_, ?_⟩ <;> omega

end encodeMC

/-! ## The spec's `|` -/

/-- Joining a value above bit `i` with one below it is adding them. -/
theorem or_eq_add_of_disjoint {x y : Nat} (i : Nat) (hx : x % 2 ^ i = 0) (hy : y < 2 ^ i) : x ||| y = x + y := by
  obtain ⟨k, rfl⟩ := Nat.dvd_of_mod_eq_zero hx
  have := Nat.shiftLeft_add_eq_or_of_lt hy k
  rw [Nat.shiftLeft_eq, Nat.mul_comm k] at this
  exact this.symm

/-- The same on words. -/
theorem word_or_eq_add {x y : Nat} (i : Nat) (hx : x % 2 ^ i = 0) (hy : y < 2 ^ i) (hi : i ≤ 32) (h : x < 2 ^ 32) :
    BitVec.ofNat 32 x ||| BitVec.ofNat 32 y = BitVec.ofNat 32 (x + y) := by
  have hy' : y < 2 ^ 32 := lt_of_lt_of_le hy (Nat.pow_le_pow_right (by norm_num) hi)
  apply BitVec.eq_of_toNat_eq
  rw [BitVec.toNat_or, BitVec.toNat_ofNat, BitVec.toNat_ofNat, BitVec.toNat_ofNat, Nat.mod_eq_of_lt h, Nat.mod_eq_of_lt hy',
    ← or_eq_add_of_disjoint i hx hy, Nat.mod_eq_of_lt (Nat.or_lt_two_pow h hy')]

/-- A field shifted to its place. -/
theorem word_shift (n k : Nat) : BitVec.ofNat 32 n <<< k = BitVec.ofNat 32 (n * 2 ^ k) := by
  apply BitVec.eq_of_toNat_eq
  simp [BitVec.toNat_shiftLeft, Nat.shiftLeft_eq, Nat.mod_mul_mod]

/-- `iw = 0x4A000000 | e<<21 | vt<<16 | vs<<11 | vd<<6 | funct` (R72). -/
theorem encodeV3_eq_or {f : Nat} (hf : f < 64) (o : V3) :
    encodeV3 f o = 0x4A000000#32 ||| BitVec.ofNat 32 o.e.val <<< 21 ||| BitVec.ofNat 32 o.vt.val <<< 16
      ||| BitVec.ofNat 32 o.vs.val <<< 11 ||| BitVec.ofNat 32 o.vd.val <<< 6 ||| BitVec.ofNat 32 f := by
  rw [word_shift, word_shift, word_shift, word_shift,
    word_or_eq_add 25 (by omega) (by omega) (by omega) (by omega), word_or_eq_add 21 (by omega) (by omega) (by omega) (by omega),
    word_or_eq_add 16 (by omega) (by omega) (by omega) (by omega), word_or_eq_add 11 (by omega) (by omega) (by omega) (by omega),
    word_or_eq_add 6 (by omega) (by omega) (by omega) (by omega)]
  rfl

/-- The single-lane form of R72: `de` in the `vs` field. -/
theorem encodeV1_eq_or {f : Nat} (hf : f < 64) (o : V1) :
    encodeV1 f o = 0x4A000000#32 ||| BitVec.ofNat 32 o.e.val <<< 21 ||| BitVec.ofNat 32 o.vt.val <<< 16
      ||| BitVec.ofNat 32 o.de.val <<< 11 ||| BitVec.ofNat 32 o.vd.val <<< 6 ||| BitVec.ofNat 32 f := by
  rw [word_shift, word_shift, word_shift, word_shift,
    word_or_eq_add 25 (by omega) (by omega) (by omega) (by omega), word_or_eq_add 21 (by omega) (by omega) (by omega) (by omega),
    word_or_eq_add 16 (by omega) (by omega) (by omega) (by omega), word_or_eq_add 11 (by omega) (by omega) (by omega) (by omega),
    word_or_eq_add 6 (by omega) (by omega) (by omega) (by omega)]
  rfl

/-- The VSAR form of R72, the ignored fields zero. -/
theorem encodeVPlane_eq_or {f : Nat} (hf : f < 64) (o : VPlane) :
    encodeVPlane f o = 0x4A000000#32 ||| BitVec.ofNat 32 o.e.val <<< 21 ||| BitVec.ofNat 32 o.vd.val <<< 6
      ||| BitVec.ofNat 32 f := by
  rw [word_shift, word_shift, word_or_eq_add 25 (by omega) (by omega) (by omega) (by omega),
    word_or_eq_add 21 (by omega) (by omega) (by omega) (by omega), word_or_eq_add 6 (by omega) (by omega) (by omega) (by omega)]
  rfl

/-- `iw = (0xC8000000 or 0xE8000000) | base<<21 | vt<<16 | sub<<11 | e<<7 | (offset & 0x7F)` (R73). -/
theorem encodeLS_eq_or {w sub : Nat} (hw : w = 0xC8000000 ∨ w = 0xE8000000) (hs : sub < 32) (o : LS) :
    encodeLS w sub o = BitVec.ofNat 32 w ||| BitVec.ofNat 32 o.base.val <<< 21 ||| BitVec.ofNat 32 o.vt.val <<< 16
      ||| BitVec.ofNat 32 sub <<< 11 ||| BitVec.ofNat 32 o.e.val <<< 7 ||| BitVec.ofNat 32 (o.offset % 128).toNat := by
  have h7 := offset_mod o.offset
  rw [word_shift, word_shift, word_shift, word_shift,
    word_or_eq_add 26 (by omega) (by omega) (by omega) (by omega), word_or_eq_add 21 (by omega) (by omega) (by omega) (by omega),
    word_or_eq_add 16 (by omega) (by omega) (by omega) (by omega), word_or_eq_add 11 (by omega) (by omega) (by omega) (by omega),
    word_or_eq_add 7 (by omega) (by omega) (by omega) (by omega)]
  rfl

/-- `iw = 0x48000000 | sel<<21 | rt<<16 | rd<<11 | e<<7` (R74). -/
theorem encodeMV_eq_or {sel : Nat} (hs : sel < 16) (o : MV) :
    encodeMV sel o = 0x48000000#32 ||| BitVec.ofNat 32 sel <<< 21 ||| BitVec.ofNat 32 o.rt.val <<< 16
      ||| BitVec.ofNat 32 o.rd.val <<< 11 ||| BitVec.ofNat 32 o.e.val <<< 7 := by
  rw [word_shift, word_shift, word_shift, word_shift,
    word_or_eq_add 25 (by omega) (by omega) (by omega) (by omega), word_or_eq_add 21 (by omega) (by omega) (by omega) (by omega),
    word_or_eq_add 16 (by omega) (by omega) (by omega) (by omega), word_or_eq_add 11 (by omega) (by omega) (by omega) (by omega)]
  rfl

/-- The flag form of R74: the register number in the low two bits of `rd`, the rest zero. -/
theorem encodeMC_eq_or {sel : Nat} (hs : sel < 16) (o : MC) :
    encodeMC sel o = 0x48000000#32 ||| BitVec.ofNat 32 sel <<< 21 ||| BitVec.ofNat 32 o.rt.val <<< 16
      ||| BitVec.ofNat 32 o.c.val <<< 11 := by
  rw [word_shift, word_shift, word_shift, word_or_eq_add 25 (by omega) (by omega) (by omega) (by omega),
    word_or_eq_add 21 (by omega) (by omega) (by omega) (by omega), word_or_eq_add 16 (by omega) (by omega) (by omega) (by omega)]
  rfl

end Sys2Proof
end

