-- ==== Sys2Proof/Laws/Family.lean ====
section
/-!
SUPPORT. One lemma per operation that several meanings share, saying all it writes; what it does not name it keeps. Later
proofs cite these and unfold no operation.
-/

namespace Sys2Proof.Machine

variable (s : State)

/-- The add with saturation writes the accumulator's low plane, one register and `VCO` (R150). -/
theorem addSaturating_eq (vd : Fin 32) (x : LaneIx → Int) : addSaturating vd x s =
    { s with
      acc := Vector.ofFn fun i => s.acc[i].extractLsb' 16 32 ++ BitVec.ofInt 16 (x i)
      vr := s.vr.set vd (Vector.ofFn fun i => clampS16 (x i))
      vco := 0#16 } := rfl

/-- The wrapping add writes the accumulator's low plane, one register and `VCO` (R150). -/
theorem addWrapping_eq (vd : Fin 32) (x : LaneIx → Int) (c n : LaneIx → Bool) : addWrapping vd x c n s =
    { s with
      acc := Vector.ofFn fun i => s.acc[i].extractLsb' 16 32 ++ BitVec.ofInt 16 (x i)
      vr := s.vr.set vd (Vector.ofFn fun i => BitVec.ofInt 16 (x i))
      vco := packFlags c n } := rfl

/-- A logical instruction writes one register, and the accumulator's low plane where the configuration says so (R160). -/
theorem logical_eq (o : V3) (f : Lane → Lane → Lane) : logical o f s =
    { s with
      acc := if s.cfg.logicalAccLo then
          Vector.ofFn fun i => s.acc[i].extractLsb' 16 32 ++ f (s.srcS o.vs i) (s.srcT o.vt o.e i)
        else s.acc
      vr := s.vr.set o.vd (Vector.ofFn fun i => f (s.srcS o.vs i) (s.srcT o.vt o.e i)) } := by
  unfold logical
  split <;> rfl

/-- A multiply writes the accumulator and one register (R171). -/
theorem mulSet_eq (o : V3) (a : LaneIx → Int) (clamp : AccLane → Lane) : mulSet o a clamp s =
    { s with
      acc := Vector.ofFn fun i => BitVec.ofInt 48 (a i)
      vr := s.vr.set o.vd (Vector.ofFn fun i => clamp (BitVec.ofInt 48 (a i))) } := rfl

/-- A multiply-accumulate is the multiply of the old accumulator and the product (R171). -/
theorem mulAdd_eq (o : V3) (a : LaneIx → Int) (clamp : AccLane → Lane) :
    mulAdd o a clamp s = mulSet o (fun i => s.acc[i].toInt + a i) clamp s := rfl

/-- A select compare writes the accumulator's low plane, one register, `VCC` and `VCO` (R191 to R194). -/
theorem selectCompare_eq (o : V3) (mask : LaneIx → Bool) : selectCompare o mask s =
    { s with
      acc := Vector.ofFn fun i => s.acc[i].extractLsb' 16 32 ++ if mask i then s.srcS o.vs i else s.srcT o.vt o.e i
      vr := s.vr.set o.vd (Vector.ofFn fun i => if mask i then s.srcS o.vs i else s.srcT o.vt o.e i)
      vcc := packFlags mask fun _ => false
      vco := 0#16 } := rfl

/-- A clip compare writes the accumulator's low plane, one register and the three flag registers (R195 to R197). -/
theorem clip_eq (o : V3) (f : LaneIx → ClipLane) : clip o f s =
    { s with
      acc := Vector.ofFn fun i => s.acc[i].extractLsb' 16 32 ++ (f i).r
      vr := s.vr.set o.vd (Vector.ofFn fun i => (f i).r)
      vcc := packFlags (fun i => (f i).le) fun i => (f i).ge
      vco := packFlags (fun i => (f i).cy) fun i => (f i).ne
      vce := packHalf fun i => (f i).ce } := rfl

/-- A flag register of zeros, lane by lane. -/
theorem packFlags_zero : packFlags (fun _ => false) (fun _ => false) = 0#16 := by decide

/-- A half of zeros, lane by lane. -/
theorem packHalf_zero : packHalf (fun _ => false) = 0#8 := by decide

/-- Of the carry bits VCL leaves none (R196). -/
theorem clipLow_cy (a b : Lane) (le ge cy ne ce : Bool) : (clipLow a b le ge cy ne ce).cy = false := by
  unfold clipLow; split <;> rfl

/-- Of the not-equal bits VCL leaves none (R196). -/
theorem clipLow_ne (a b : Lane) (le ge cy ne ce : Bool) : (clipLow a b le ge cy ne ce).ne = false := by
  unfold clipLow; split <;> rfl

/-- Of the extension bits VCL leaves none (R196). -/
theorem clipLow_ce (a b : Lane) (le ge cy ne ce : Bool) : (clipLow a b le ge cy ne ce).ce = false := by
  unfold clipLow; split <;> rfl

/-- Of the carry bits VCR leaves none (R197). -/
theorem clipReverse_cy (a b : Lane) : (clipReverse a b).cy = false := by
  unfold clipReverse; split <;> rfl

/-- Of the not-equal bits VCR leaves none (R197). -/
theorem clipReverse_ne (a b : Lane) : (clipReverse a b).ne = false := by
  unfold clipReverse; split <;> rfl

/-- Of the extension bits VCR leaves none (R197). -/
theorem clipReverse_ce (a b : Lane) : (clipReverse a b).ce = false := by
  unfold clipReverse; split <;> rfl

/-- A result-producing reciprocal instruction writes the accumulator's low plane, one lane, `DP` and `DIV_OUT` (R216). -/
theorem recipResult_eq (rsq : Bool) (x : Word) (o : V1) : recipResult rsq x o s =
    { s with
      acc := Vector.ofFn fun i => s.acc[i].extractLsb' 16 32 ++ s.srcT o.vt o.e i
      vr := s.vr.set o.vd (s.vr[o.vd].set o.de ((rcpCore s.cfg x rsq).extractLsb' 0 16))
      dp := false
      divOut := (rcpCore s.cfg x rsq).extractLsb' 16 16 } := rfl

/-- A high-half reciprocal instruction writes the accumulator's low plane, one lane, `DP` and `DIV_IN` (R218). -/
theorem recipHigh_eq (o : V1) : recipHigh o s =
    { s with
      acc := Vector.ofFn fun i => s.acc[i].extractLsb' 16 32 ++ s.srcT o.vt o.e i
      vr := s.vr.set o.vd (s.vr[o.vd].set o.de s.divOut)
      dp := true
      divIn := s.srcLane o.vt o.e } := rfl

/-- The flag register CTC2 writes (R235). -/
theorem writeFlag_eq (v : Word) (r : FlagReg) : writeFlag s v r =
    { s with
      vco := if r = .vco then v.extractLsb' 0 16 else s.vco
      vcc := if r = .vcc then v.extractLsb' 0 16 else s.vcc
      vce := if r = .vce then v.extractLsb' 0 8 else s.vce } := by
  cases r <;> rfl

end Sys2Proof.Machine
end

