-- ==== Sys2Proof/Laws/PerInstr.lean ====
section
/-!
SUPPORT. For every instruction: its word is of its row of the opcode table, `iw & mask = match` (30_encoding.md R76 to R78).
-/

namespace Sys2Proof

/-! ## The bits a row fixes -/

/-- A field's bits are the word's. -/
theorem testBit_field (w : Word) (lo n j : Nat) : (field w lo n).testBit j = (decide (j < n) && w.getLsbD (lo + j)) := by
  rw [field, Nat.testBit_mod_two_pow, Nat.testBit_div_two_pow, BitVec.getLsbD, Nat.add_comm]

theorem bit_of_field {w : Word} {lo n f : Nat} (h : field w lo n = f) (j : Nat) (hj : j < n) :
    w.getLsbD (lo + j) = f.testBit j := by rw [← h, testBit_field]; simp [hj]

theorem testBit_above {f n j : Nat} (hf : f < 2 ^ n) (hj : n ≤ j) : f.testBit j = false :=
  Nat.testBit_lt_two_pow (lt_of_lt_of_le hf (Nat.pow_le_pow_right (by norm_num) hj))

/-- A format V word is of the row of its function code. -/
theorem and_maskV {w : Word} {f : Nat} (h1 : field w 26 6 = 0x12) (h2 : field w 25 1 = 1) (h3 : field w 0 6 = f) :
    w &&& 0xFE00003F#32 = BitVec.ofNat 32 (0x4A000000 + f) := by
  have hf : f < 2 ^ 6 := by rw [← h3, field]; omega
  rw [← word_or_eq_add 6 (by omega) (by omega) (by omega) (by omega)]
  apply BitVec.eq_of_getLsbD_eq
  intro i hi
  have g1 : 26 ≤ i → w.getLsbD i = (0x12).testBit (i - 26) := fun h => by
    rw [← bit_of_field h1 (i - 26) (by omega), Nat.add_sub_cancel' h]
  have g3 : i < 6 → w.getLsbD i = f.testBit i := fun h => by rw [← bit_of_field h3 i h, Nat.zero_add]
  have g2 : w.getLsbD 25 = true := bit_of_field h2 0 (by omega)
  have gf : 6 ≤ i → f.testBit i = false := testBit_above hf
  simp only [BitVec.getLsbD_and, BitVec.getLsbD_or, BitVec.getLsbD_ofNat, hi]
  interval_cases i <;> simp_all [Nat.testBit]

/-- A format LS word is of the row of its access kind. -/
theorem and_maskLS {w : Word} {op s : Nat} (h1 : field w 26 6 = op) (h2 : field w 11 5 = s) :
    w &&& 0xFC00F800#32 = BitVec.ofNat 32 (op * 2 ^ 26 + s * 2 ^ 11) := by
  have ho : op < 2 ^ 6 := by rw [← h1, field]; omega
  have hs : s < 2 ^ 5 := by rw [← h2, field]; omega
  rw [← word_or_eq_add 16 (by omega) (by omega) (by omega) (by omega)]
  apply BitVec.eq_of_getLsbD_eq
  intro i hi
  have g1 : 26 ≤ i → w.getLsbD i = op.testBit (i - 26) := fun h => by
    rw [← bit_of_field h1 (i - 26) (by omega), Nat.add_sub_cancel' h]
  have g2 : 11 ≤ i → i < 16 → w.getLsbD i = s.testBit (i - 11) := fun h h' => by
    rw [← bit_of_field h2 (i - 11) (by omega), Nat.add_sub_cancel' h]
  have gs : 5 ≤ i - 11 → s.testBit (i - 11) = false := testBit_above hs
  simp only [BitVec.getLsbD_and, BitVec.getLsbD_or, BitVec.getLsbD_ofNat, Nat.testBit_mul_two_pow, hi]
  clear h1 h2 ho hs
  interval_cases i <;> simp_all [Nat.testBit]

/-- A format M word is of the row of its selector. -/
theorem and_maskM {w : Word} {s : Nat} (h1 : field w 26 6 = 0x12) (h3 : field w 21 5 = s) (hs : s < 16) :
    w &&& 0xFFE00000#32 = BitVec.ofNat 32 (0x48000000 + s * 2 ^ 21) := by
  rw [← word_or_eq_add 25 (by omega) (by omega) (by omega) (by omega)]
  apply BitVec.eq_of_getLsbD_eq
  intro i hi
  have g1 : 26 ≤ i → w.getLsbD i = (0x12).testBit (i - 26) := fun h => by
    rw [← bit_of_field h1 (i - 26) (by omega), Nat.add_sub_cancel' h]
  have g3 : 21 ≤ i → i < 26 → w.getLsbD i = s.testBit (i - 21) := fun h h' => by
    rw [← bit_of_field h3 (i - 21) (by omega), Nat.add_sub_cancel' h]
  have gs : 4 ≤ i - 21 → s.testBit (i - 21) = false := testBit_above (n := 4) (by omega)
  simp only [BitVec.getLsbD_and, BitVec.getLsbD_or, BitVec.getLsbD_ofNat, Nat.testBit_mul_two_pow, hi]
  clear h1 h3 hs
  interval_cases i <;> simp_all [Nat.testBit]

end Sys2Proof

namespace Sys2Proof.Laws.EncodesRow

/-- The word `w` is of the row `r`, which the table has. -/
def OfRow (w : Word) (r : OpcodeRow) : Prop := w &&& r.mask = r.pattern ∧ r ∈ opcodeRows

/-- The row of an instruction (R76 to R78). -/
def row : Instr → OpcodeRow
  | .vmulf _ => rowV 0x00
  | .vmulu _ => rowV 0x01
  | .vmudl _ => rowV 0x04
  | .vmudm _ => rowV 0x05
  | .vmudn _ => rowV 0x06
  | .vmudh _ => rowV 0x07
  | .vmacf _ => rowV 0x08
  | .vmacu _ => rowV 0x09
  | .vmadl _ => rowV 0x0C
  | .vmadm _ => rowV 0x0D
  | .vmadn _ => rowV 0x0E
  | .vmadh _ => rowV 0x0F
  | .vadd _ => rowV 0x10
  | .vsub _ => rowV 0x11
  | .vabs _ => rowV 0x13
  | .vaddc _ => rowV 0x14
  | .vsubc _ => rowV 0x15
  | .vsar _ => rowV 0x1D
  | .vlt _ => rowV 0x20
  | .veq _ => rowV 0x21
  | .vne _ => rowV 0x22
  | .vge _ => rowV 0x23
  | .vcl _ => rowV 0x24
  | .vch _ => rowV 0x25
  | .vcr _ => rowV 0x26
  | .vmrg _ => rowV 0x27
  | .vand _ => rowV 0x28
  | .vnand _ => rowV 0x29
  | .vor _ => rowV 0x2A
  | .vnor _ => rowV 0x2B
  | .vxor _ => rowV 0x2C
  | .vnxor _ => rowV 0x2D
  | .vrcp _ => rowV 0x30
  | .vrcpl _ => rowV 0x31
  | .vrcph _ => rowV 0x32
  | .vmov _ => rowV 0x33
  | .vrsq _ => rowV 0x34
  | .vrsql _ => rowV 0x35
  | .vrsqh _ => rowV 0x36
  | .vnop => rowV 0x37
  | .vnull => rowV 0x3F
  | .lbv _ => rowLS 0xC8000000 0
  | .lsv _ => rowLS 0xC8000000 1
  | .llv _ => rowLS 0xC8000000 2
  | .ldv _ => rowLS 0xC8000000 3
  | .lqv _ => rowLS 0xC8000000 4
  | .lrv _ => rowLS 0xC8000000 5
  | .lpv _ => rowLS 0xC8000000 6
  | .luv _ => rowLS 0xC8000000 7
  | .sbv _ => rowLS 0xE8000000 0
  | .ssv _ => rowLS 0xE8000000 1
  | .slv _ => rowLS 0xE8000000 2
  | .sdv _ => rowLS 0xE8000000 3
  | .sqv _ => rowLS 0xE8000000 4
  | .srv _ => rowLS 0xE8000000 5
  | .spv _ => rowLS 0xE8000000 6
  | .suv _ => rowLS 0xE8000000 7
  | .mfc2 _ => rowM 0x48000000
  | .cfc2 _ => rowM 0x48400000
  | .mtc2 _ => rowM 0x48800000
  | .ctc2 _ => rowM 0x48C00000

/-- The instruction's word is of the instruction's row. -/
def Statement (i : Instr) : Prop := OfRow (encode i) (row i)

theorem vmulf (o : V3) : Statement (.vmulf o) :=
  ⟨and_maskV (op_encodeV3 (by decide) o) (co_encodeV3 (by decide) o) (funct_encodeV3 (by decide) o), show rowV 0x00 ∈ opcodeRows by decide⟩
theorem vmulu (o : V3) : Statement (.vmulu o) :=
  ⟨and_maskV (op_encodeV3 (by decide) o) (co_encodeV3 (by decide) o) (funct_encodeV3 (by decide) o), show rowV 0x01 ∈ opcodeRows by decide⟩
theorem vmudl (o : V3) : Statement (.vmudl o) :=
  ⟨and_maskV (op_encodeV3 (by decide) o) (co_encodeV3 (by decide) o) (funct_encodeV3 (by decide) o), show rowV 0x04 ∈ opcodeRows by decide⟩
theorem vmudm (o : V3) : Statement (.vmudm o) :=
  ⟨and_maskV (op_encodeV3 (by decide) o) (co_encodeV3 (by decide) o) (funct_encodeV3 (by decide) o), show rowV 0x05 ∈ opcodeRows by decide⟩
theorem vmudn (o : V3) : Statement (.vmudn o) :=
  ⟨and_maskV (op_encodeV3 (by decide) o) (co_encodeV3 (by decide) o) (funct_encodeV3 (by decide) o), show rowV 0x06 ∈ opcodeRows by decide⟩
theorem vmudh (o : V3) : Statement (.vmudh o) :=
  ⟨and_maskV (op_encodeV3 (by decide) o) (co_encodeV3 (by decide) o) (funct_encodeV3 (by decide) o), show rowV 0x07 ∈ opcodeRows by decide⟩
theorem vmacf (o : V3) : Statement (.vmacf o) :=
  ⟨and_maskV (op_encodeV3 (by decide) o) (co_encodeV3 (by decide) o) (funct_encodeV3 (by decide) o), show rowV 0x08 ∈ opcodeRows by decide⟩
theorem vmacu (o : V3) : Statement (.vmacu o) :=
  ⟨and_maskV (op_encodeV3 (by decide) o) (co_encodeV3 (by decide) o) (funct_encodeV3 (by decide) o), show rowV 0x09 ∈ opcodeRows by decide⟩
theorem vmadl (o : V3) : Statement (.vmadl o) :=
  ⟨and_maskV (op_encodeV3 (by decide) o) (co_encodeV3 (by decide) o) (funct_encodeV3 (by decide) o), show rowV 0x0C ∈ opcodeRows by decide⟩
theorem vmadm (o : V3) : Statement (.vmadm o) :=
  ⟨and_maskV (op_encodeV3 (by decide) o) (co_encodeV3 (by decide) o) (funct_encodeV3 (by decide) o), show rowV 0x0D ∈ opcodeRows by decide⟩
theorem vmadn (o : V3) : Statement (.vmadn o) :=
  ⟨and_maskV (op_encodeV3 (by decide) o) (co_encodeV3 (by decide) o) (funct_encodeV3 (by decide) o), show rowV 0x0E ∈ opcodeRows by decide⟩
theorem vmadh (o : V3) : Statement (.vmadh o) :=
  ⟨and_maskV (op_encodeV3 (by decide) o) (co_encodeV3 (by decide) o) (funct_encodeV3 (by decide) o), show rowV 0x0F ∈ opcodeRows by decide⟩
theorem vadd (o : V3) : Statement (.vadd o) :=
  ⟨and_maskV (op_encodeV3 (by decide) o) (co_encodeV3 (by decide) o) (funct_encodeV3 (by decide) o), show rowV 0x10 ∈ opcodeRows by decide⟩
theorem vsub (o : V3) : Statement (.vsub o) :=
  ⟨and_maskV (op_encodeV3 (by decide) o) (co_encodeV3 (by decide) o) (funct_encodeV3 (by decide) o), show rowV 0x11 ∈ opcodeRows by decide⟩
theorem vabs (o : V3) : Statement (.vabs o) :=
  ⟨and_maskV (op_encodeV3 (by decide) o) (co_encodeV3 (by decide) o) (funct_encodeV3 (by decide) o), show rowV 0x13 ∈ opcodeRows by decide⟩
theorem vaddc (o : V3) : Statement (.vaddc o) :=
  ⟨and_maskV (op_encodeV3 (by decide) o) (co_encodeV3 (by decide) o) (funct_encodeV3 (by decide) o), show rowV 0x14 ∈ opcodeRows by decide⟩
theorem vsubc (o : V3) : Statement (.vsubc o) :=
  ⟨and_maskV (op_encodeV3 (by decide) o) (co_encodeV3 (by decide) o) (funct_encodeV3 (by decide) o), show rowV 0x15 ∈ opcodeRows by decide⟩
theorem vsar (o : VPlane) : Statement (.vsar o) :=
  ⟨and_maskV (op_encodeVPlane (by decide) o) (co_encodeVPlane (by decide) o) (funct_encodeVPlane (by decide) o), show rowV 0x1D ∈ opcodeRows by decide⟩
theorem vlt (o : V3) : Statement (.vlt o) :=
  ⟨and_maskV (op_encodeV3 (by decide) o) (co_encodeV3 (by decide) o) (funct_encodeV3 (by decide) o), show rowV 0x20 ∈ opcodeRows by decide⟩
theorem veq (o : V3) : Statement (.veq o) :=
  ⟨and_maskV (op_encodeV3 (by decide) o) (co_encodeV3 (by decide) o) (funct_encodeV3 (by decide) o), show rowV 0x21 ∈ opcodeRows by decide⟩
theorem vne (o : V3) : Statement (.vne o) :=
  ⟨and_maskV (op_encodeV3 (by decide) o) (co_encodeV3 (by decide) o) (funct_encodeV3 (by decide) o), show rowV 0x22 ∈ opcodeRows by decide⟩
theorem vge (o : V3) : Statement (.vge o) :=
  ⟨and_maskV (op_encodeV3 (by decide) o) (co_encodeV3 (by decide) o) (funct_encodeV3 (by decide) o), show rowV 0x23 ∈ opcodeRows by decide⟩
theorem vcl (o : V3) : Statement (.vcl o) :=
  ⟨and_maskV (op_encodeV3 (by decide) o) (co_encodeV3 (by decide) o) (funct_encodeV3 (by decide) o), show rowV 0x24 ∈ opcodeRows by decide⟩
theorem vch (o : V3) : Statement (.vch o) :=
  ⟨and_maskV (op_encodeV3 (by decide) o) (co_encodeV3 (by decide) o) (funct_encodeV3 (by decide) o), show rowV 0x25 ∈ opcodeRows by decide⟩
theorem vcr (o : V3) : Statement (.vcr o) :=
  ⟨and_maskV (op_encodeV3 (by decide) o) (co_encodeV3 (by decide) o) (funct_encodeV3 (by decide) o), show rowV 0x26 ∈ opcodeRows by decide⟩
theorem vmrg (o : V3) : Statement (.vmrg o) :=
  ⟨and_maskV (op_encodeV3 (by decide) o) (co_encodeV3 (by decide) o) (funct_encodeV3 (by decide) o), show rowV 0x27 ∈ opcodeRows by decide⟩
theorem vand (o : V3) : Statement (.vand o) :=
  ⟨and_maskV (op_encodeV3 (by decide) o) (co_encodeV3 (by decide) o) (funct_encodeV3 (by decide) o), show rowV 0x28 ∈ opcodeRows by decide⟩
theorem vnand (o : V3) : Statement (.vnand o) :=
  ⟨and_maskV (op_encodeV3 (by decide) o) (co_encodeV3 (by decide) o) (funct_encodeV3 (by decide) o), show rowV 0x29 ∈ opcodeRows by decide⟩
theorem vor (o : V3) : Statement (.vor o) :=
  ⟨and_maskV (op_encodeV3 (by decide) o) (co_encodeV3 (by decide) o) (funct_encodeV3 (by decide) o), show rowV 0x2A ∈ opcodeRows by decide⟩
theorem vnor (o : V3) : Statement (.vnor o) :=
  ⟨and_maskV (op_encodeV3 (by decide) o) (co_encodeV3 (by decide) o) (funct_encodeV3 (by decide) o), show rowV 0x2B ∈ opcodeRows by decide⟩
theorem vxor (o : V3) : Statement (.vxor o) :=
  ⟨and_maskV (op_encodeV3 (by decide) o) (co_encodeV3 (by decide) o) (funct_encodeV3 (by decide) o), show rowV 0x2C ∈ opcodeRows by decide⟩
theorem vnxor (o : V3) : Statement (.vnxor o) :=
  ⟨and_maskV (op_encodeV3 (by decide) o) (co_encodeV3 (by decide) o) (funct_encodeV3 (by decide) o), show rowV 0x2D ∈ opcodeRows by decide⟩
theorem vrcp (o : V1) : Statement (.vrcp o) :=
  ⟨and_maskV (op_encodeV1 (by decide) o) (co_encodeV1 (by decide) o) (funct_encodeV1 (by decide) o), show rowV 0x30 ∈ opcodeRows by decide⟩
theorem vrcpl (o : V1) : Statement (.vrcpl o) :=
  ⟨and_maskV (op_encodeV1 (by decide) o) (co_encodeV1 (by decide) o) (funct_encodeV1 (by decide) o), show rowV 0x31 ∈ opcodeRows by decide⟩
theorem vrcph (o : V1) : Statement (.vrcph o) :=
  ⟨and_maskV (op_encodeV1 (by decide) o) (co_encodeV1 (by decide) o) (funct_encodeV1 (by decide) o), show rowV 0x32 ∈ opcodeRows by decide⟩
theorem vmov (o : V1) : Statement (.vmov o) :=
  ⟨and_maskV (op_encodeV1 (by decide) o) (co_encodeV1 (by decide) o) (funct_encodeV1 (by decide) o), show rowV 0x33 ∈ opcodeRows by decide⟩
theorem vrsq (o : V1) : Statement (.vrsq o) :=
  ⟨and_maskV (op_encodeV1 (by decide) o) (co_encodeV1 (by decide) o) (funct_encodeV1 (by decide) o), show rowV 0x34 ∈ opcodeRows by decide⟩
theorem vrsql (o : V1) : Statement (.vrsql o) :=
  ⟨and_maskV (op_encodeV1 (by decide) o) (co_encodeV1 (by decide) o) (funct_encodeV1 (by decide) o), show rowV 0x35 ∈ opcodeRows by decide⟩
theorem vrsqh (o : V1) : Statement (.vrsqh o) :=
  ⟨and_maskV (op_encodeV1 (by decide) o) (co_encodeV1 (by decide) o) (funct_encodeV1 (by decide) o), show rowV 0x36 ∈ opcodeRows by decide⟩
theorem vnop : Statement .vnop := ⟨by decide, by decide⟩
theorem vnull : Statement .vnull := ⟨by decide, by decide⟩
theorem lbv (o : LS) : Statement (.lbv o) :=
  ⟨and_maskLS (op_encodeLS (.inl rfl) (by decide) o) (sub_encodeLS (.inl rfl) (by decide) o), show rowLS 0xC8000000 0 ∈ opcodeRows by decide⟩
theorem lsv (o : LS) : Statement (.lsv o) :=
  ⟨and_maskLS (op_encodeLS (.inl rfl) (by decide) o) (sub_encodeLS (.inl rfl) (by decide) o), show rowLS 0xC8000000 1 ∈ opcodeRows by decide⟩
theorem llv (o : LS) : Statement (.llv o) :=
  ⟨and_maskLS (op_encodeLS (.inl rfl) (by decide) o) (sub_encodeLS (.inl rfl) (by decide) o), show rowLS 0xC8000000 2 ∈ opcodeRows by decide⟩
theorem ldv (o : LS) : Statement (.ldv o) :=
  ⟨and_maskLS (op_encodeLS (.inl rfl) (by decide) o) (sub_encodeLS (.inl rfl) (by decide) o), show rowLS 0xC8000000 3 ∈ opcodeRows by decide⟩
theorem lqv (o : LS) : Statement (.lqv o) :=
  ⟨and_maskLS (op_encodeLS (.inl rfl) (by decide) o) (sub_encodeLS (.inl rfl) (by decide) o), show rowLS 0xC8000000 4 ∈ opcodeRows by decide⟩
theorem lrv (o : LS) : Statement (.lrv o) :=
  ⟨and_maskLS (op_encodeLS (.inl rfl) (by decide) o) (sub_encodeLS (.inl rfl) (by decide) o), show rowLS 0xC8000000 5 ∈ opcodeRows by decide⟩
theorem lpv (o : LS) : Statement (.lpv o) :=
  ⟨and_maskLS (op_encodeLS (.inl rfl) (by decide) o) (sub_encodeLS (.inl rfl) (by decide) o), show rowLS 0xC8000000 6 ∈ opcodeRows by decide⟩
theorem luv (o : LS) : Statement (.luv o) :=
  ⟨and_maskLS (op_encodeLS (.inl rfl) (by decide) o) (sub_encodeLS (.inl rfl) (by decide) o), show rowLS 0xC8000000 7 ∈ opcodeRows by decide⟩
theorem sbv (o : LS) : Statement (.sbv o) :=
  ⟨and_maskLS (op_encodeLS (.inr rfl) (by decide) o) (sub_encodeLS (.inr rfl) (by decide) o), show rowLS 0xE8000000 0 ∈ opcodeRows by decide⟩
theorem ssv (o : LS) : Statement (.ssv o) :=
  ⟨and_maskLS (op_encodeLS (.inr rfl) (by decide) o) (sub_encodeLS (.inr rfl) (by decide) o), show rowLS 0xE8000000 1 ∈ opcodeRows by decide⟩
theorem slv (o : LS) : Statement (.slv o) :=
  ⟨and_maskLS (op_encodeLS (.inr rfl) (by decide) o) (sub_encodeLS (.inr rfl) (by decide) o), show rowLS 0xE8000000 2 ∈ opcodeRows by decide⟩
theorem sdv (o : LS) : Statement (.sdv o) :=
  ⟨and_maskLS (op_encodeLS (.inr rfl) (by decide) o) (sub_encodeLS (.inr rfl) (by decide) o), show rowLS 0xE8000000 3 ∈ opcodeRows by decide⟩
theorem sqv (o : LS) : Statement (.sqv o) :=
  ⟨and_maskLS (op_encodeLS (.inr rfl) (by decide) o) (sub_encodeLS (.inr rfl) (by decide) o), show rowLS 0xE8000000 4 ∈ opcodeRows by decide⟩
theorem srv (o : LS) : Statement (.srv o) :=
  ⟨and_maskLS (op_encodeLS (.inr rfl) (by decide) o) (sub_encodeLS (.inr rfl) (by decide) o), show rowLS 0xE8000000 5 ∈ opcodeRows by decide⟩
theorem spv (o : LS) : Statement (.spv o) :=
  ⟨and_maskLS (op_encodeLS (.inr rfl) (by decide) o) (sub_encodeLS (.inr rfl) (by decide) o), show rowLS 0xE8000000 6 ∈ opcodeRows by decide⟩
theorem suv (o : LS) : Statement (.suv o) :=
  ⟨and_maskLS (op_encodeLS (.inr rfl) (by decide) o) (sub_encodeLS (.inr rfl) (by decide) o), show rowLS 0xE8000000 7 ∈ opcodeRows by decide⟩
theorem mfc2 (o : MV) : Statement (.mfc2 o) :=
  ⟨and_maskM (op_encodeMV (by decide) o) (sel_encodeMV (by decide) o) (by decide), show rowM 0x48000000 ∈ opcodeRows by decide⟩
theorem cfc2 (o : MC) : Statement (.cfc2 o) :=
  ⟨and_maskM (op_encodeMC (by decide) o) (sel_encodeMC (by decide) o) (by decide), show rowM 0x48400000 ∈ opcodeRows by decide⟩
theorem mtc2 (o : MV) : Statement (.mtc2 o) :=
  ⟨and_maskM (op_encodeMV (by decide) o) (sel_encodeMV (by decide) o) (by decide), show rowM 0x48800000 ∈ opcodeRows by decide⟩
theorem ctc2 (o : MC) : Statement (.ctc2 o) :=
  ⟨and_maskM (op_encodeMC (by decide) o) (sel_encodeMC (by decide) o) (by decide), show rowM 0x48C00000 ∈ opcodeRows by decide⟩

end Sys2Proof.Laws.EncodesRow
end

