-- ==== Sys2Proof/Laws/Step.lean ====
section
/-!
SUPPORT. What one step can be: idle, one instruction's `exec`, or a refusal of a word that spells none.
-/

namespace Sys2Proof.Machine

/-- With no command presented. -/
theorem step_idle {s : State} (h : s.commands = []) : step s = .next s := by
  unfold step; rw [h]

/-- With a command that spells an instruction. -/
theorem step_command {s : State} {c : Command} {rest : List Command} {i : Instr} (h : s.commands = c :: rest)
    (hd : decode c.iw = .ok i) : step s = exec i (s.takeCommand c rest) := by
  unfold step; rw [h]; simp only [hd]

/-- With a command that spells none. -/
theorem step_undecodable {s : State} {c : Command} {rest : List Command} {why : Undecodable} (h : s.commands = c :: rest)
    (hd : decode c.iw = .error why) : step s = .refused (.undecodable why c.iw) := by
  unfold step; rw [h]; simp only [hd]

/-- Every step that answers a next state is idle or `exec` of the presented instruction. -/
theorem step_cases {s t : State} (h : step s = .next t) :
    (s.commands = [] ∧ t = s) ∨
    ∃ c rest i, s.commands = c :: rest ∧ decode c.iw = .ok i ∧ exec i (s.takeCommand c rest) = .next t := by
  cases hc : s.commands with
  | nil => rw [step_idle hc] at h; cases h; exact .inl ⟨rfl, rfl⟩
  | cons c rest =>
    cases hd : decode c.iw with
    | error why => rw [step_undecodable hc hd] at h; cases h
    | ok i => exact .inr ⟨c, rest, i, rfl, hd, by rw [← step_command hc hd]; exact h⟩

/-- The word `withFetchWord` presents is the next one. -/
theorem step_withFetchWord {s : State} {nbits w : Nat} {i : Instr}
    (hd : decode (BitVec.ofNat 32 (w % 2 ^ nbits)) = .ok i) :
    step (s.withFetchWord nbits w) = exec i { s with sdataOut := none } := by
  unfold step State.withFetchWord; simp only [hd]; rfl

end Sys2Proof.Machine
end

