-- ==== Sys2Proof/Tests/Slice0.lean ====
section
/-!
SUPPORT. The model's own tests: ill-formed terms that the checks refuse, words written out from the spec's encodings, one
step per instruction on the numbers of spec/95_test_vectors.md and of the rules' examples (the source of each is named), and
a witness for every statement that has hypotheses. Every expected value is the spec's.
-/

namespace Sys2Proof.Tests

open Sys2Proof.Machine Sys2Proof.Claims

/-! ## Ill-formed terms -/

/-- An offset one past the largest (R75: -64..63). -/
theorem test_offset_64_ill_formed : (Instr.lqv ⟨0, 1, 0, 64⟩).wf = false := by decide

/-- An offset one below the smallest. -/
theorem test_offset_minus_65_ill_formed : (Instr.sdv ⟨0, 1, 0, -65⟩).wf = false := by decide

/-- The two ends are well formed. -/
theorem test_offset_ends_well_formed : (Instr.lqv ⟨0, 1, 0, 63⟩).wf = true ∧ (Instr.lqv ⟨0, 1, 0, -64⟩).wf = true := by
  decide

/-- A bus of eight bytes: address 8 is address 0 (log 16). -/
theorem test_bus_ill_formed : ¬busWf ⟨8, [], [], [], []⟩ := fun h =>
  absurd (h 0#32 0 8 (by decide) (by decide) (by decide)) (by decide)

/-- A bus on which two neighbouring addresses are one place. -/
theorem test_bus_places_ill_formed : ¬busWf ⟨4096, [(1#32, 0)], [], [], []⟩ := fun h =>
  absurd (h 0#32 0 1 (by decide) (by decide) (by decide)) (by decide)

/-- The recommended bus (R53). -/
theorem test_recommended_bus_well_formed : busWf Bus.recommended :=
  busWf_of_pow (n := 12) (by decide) rfl rfl

/-- Memories that are not in canonical form: falling addresses, a repeated address, an entry an unlisted byte reads as. -/
theorem test_memory_ill_formed : Memory.wf [(2, 1#8), (1, 1#8)] = false ∧ Memory.wf [(1, 1#8), (1, 2#8)] = false
    ∧ Memory.wf [(1, 0#8)] = false := by decide

/-! ## Decoding: words written out field by field (R72 to R74) and the spec's command words -/

/-- VMULF v4, v5, v6[9]: op, co, e, vt, vs, vd, funct (R72). -/
theorem test_decode_fields_multiply :
    decode (0b010010#6 ++ 0b1#1 ++ 0b1001#4 ++ 0b00110#5 ++ 0b00101#5 ++ 0b00100#5 ++ 0b000000#6)
      = .ok (.vmulf ⟨4, 5, 6, 9⟩) := by decide

/-- VADD v3, v1, v2. -/
theorem test_decode_fields_add :
    decode (0b010010#6 ++ 0b1#1 ++ 0b0000#4 ++ 0b00010#5 ++ 0b00001#5 ++ 0b00011#5 ++ 0b010000#6)
      = .ok (.vadd ⟨3, 1, 2, 0⟩) := by decide

/-- VNXOR v31, v0, v16[5]. -/
theorem test_decode_fields_logical :
    decode (0b010010#6 ++ 0b1#1 ++ 0b0101#4 ++ 0b10000#5 ++ 0b00000#5 ++ 0b11111#5 ++ 0b101101#6)
      = .ok (.vnxor ⟨31, 0, 16, 5⟩) := by decide

/-- VCH v5, v1, v3. -/
theorem test_decode_fields_compare :
    decode (0b010010#6 ++ 0b1#1 ++ 0b0000#4 ++ 0b00011#5 ++ 0b00001#5 ++ 0b00101#5 ++ 0b100101#6)
      = .ok (.vch ⟨5, 1, 3, 0⟩) := by decide

/-- VMOV v3[2], v2 with bits 15:14 of the `vs` field set: they are ignored (R203). -/
theorem test_decode_fields_move :
    decode (0b010010#6 ++ 0b1#1 ++ 0b0000#4 ++ 0b00010#5 ++ 0b11010#5 ++ 0b00011#5 ++ 0b110011#6)
      = .ok (.vmov ⟨3, 2, 2, 0⟩) := by decide

/-- VRCP v7[3], v8[10]. -/
theorem test_decode_fields_reciprocal :
    decode (0b010010#6 ++ 0b1#1 ++ 0b1010#4 ++ 0b01000#5 ++ 0b00011#5 ++ 0b00111#5 ++ 0b110000#6)
      = .ok (.vrcp ⟨7, 3, 8, 10⟩) := by decide

/-- LQV v1[0], 16(base): op, base, vt, sub, e, offset (R73). -/
theorem test_decode_fields_load :
    decode (0b110010#6 ++ 0b00000#5 ++ 0b00001#5 ++ 0b00100#5 ++ 0b0000#4 ++ 0b0000001#7)
      = .ok (.lqv ⟨0, 1, 0, 1⟩) := by decide

/-- SDV v2[8], -8(base). -/
theorem test_decode_fields_store :
    decode (0b111010#6 ++ 0b00000#5 ++ 0b00010#5 ++ 0b00011#5 ++ 0b1000#4 ++ 0b1111111#7)
      = .ok (.sdv ⟨0, 2, 8, -1⟩) := by decide

/-- MTC2 v5[6]: op, sel, rt, rd, e, ignored (R74). -/
theorem test_decode_fields_access :
    decode (0b010010#6 ++ 0b00100#5 ++ 0b00000#5 ++ 0b00101#5 ++ 0b0110#4 ++ 0b0000000#7)
      = .ok (.mtc2 ⟨0, 5, 6⟩) := by decide

/-- Multiply family: the words of 95_test_vectors.md section 2.5 and program P5. -/
theorem test_decode_multiply :
    decode 0x4A0208C0#32 = .ok (.vmulf ⟨3, 1, 2, 0⟩) ∧ decode 0x4A0208C1#32 = .ok (.vmulu ⟨3, 1, 2, 0⟩)
    ∧ decode 0x4A041144#32 = .ok (.vmudl ⟨5, 2, 4, 0⟩) ∧ decode 0x4A0208C5#32 = .ok (.vmudm ⟨3, 1, 2, 0⟩)
    ∧ decode 0x4A0208C6#32 = .ok (.vmudn ⟨3, 1, 2, 0⟩) ∧ decode 0x4A0208C7#32 = .ok (.vmudh ⟨3, 1, 2, 0⟩)
    ∧ decode 0x4B0208C8#32 = .ok (.vmacf ⟨3, 1, 2, 8⟩) ∧ decode 0x4A020909#32 = .ok (.vmacu ⟨4, 1, 2, 0⟩)
    ∧ decode 0x4A0208CC#32 = .ok (.vmadl ⟨3, 1, 2, 0⟩) ∧ decode 0x4A04094D#32 = .ok (.vmadm ⟨5, 1, 4, 0⟩)
    ∧ decode 0x4A03118E#32 = .ok (.vmadn ⟨6, 2, 3, 0⟩) ∧ decode 0x4A03094F#32 = .ok (.vmadh ⟨5, 1, 3, 0⟩) := by decide

/-- Add, logical, merge, absolute value: sections 2.1, 2.3, 2.4, 2.7. -/
theorem test_decode_add_logical :
    decode 0x4BE208D0#32 = .ok (.vadd ⟨3, 1, 2, 15⟩) ∧ decode 0x4A030991#32 = .ok (.vsub ⟨6, 1, 3, 0⟩)
    ∧ decode 0x4A0208D4#32 = .ok (.vaddc ⟨3, 1, 2, 0⟩) ∧ decode 0x4A041155#32 = .ok (.vsubc ⟨5, 2, 4, 0⟩)
    ∧ decode 0x4A0208E8#32 = .ok (.vand ⟨3, 1, 2, 0⟩) ∧ decode 0x4A0208E9#32 = .ok (.vnand ⟨3, 1, 2, 0⟩)
    ∧ decode 0x4A0208EA#32 = .ok (.vor ⟨3, 1, 2, 0⟩) ∧ decode 0x4A0208EB#32 = .ok (.vnor ⟨3, 1, 2, 0⟩)
    ∧ decode 0x4A0208EC#32 = .ok (.vxor ⟨3, 1, 2, 0⟩) ∧ decode 0x4A0208ED#32 = .ok (.vnxor ⟨3, 1, 2, 0⟩)
    ∧ decode 0x4B6208E7#32 = .ok (.vmrg ⟨3, 1, 2, 11⟩) ∧ decode 0x4A0108D3#32 = .ok (.vabs ⟨3, 1, 1, 0⟩) := by decide

/-- Compares, single-lane instructions, VSAR, the no-operations: sections 2.6 to 2.8. -/
theorem test_decode_compare_single_lane :
    decode 0x4A0309A0#32 = .ok (.vlt ⟨6, 1, 3, 0⟩) ∧ decode 0x4A0309A1#32 = .ok (.veq ⟨6, 1, 3, 0⟩)
    ∧ decode 0x4A0309A2#32 = .ok (.vne ⟨6, 1, 3, 0⟩) ∧ decode 0x4A0309A3#32 = .ok (.vge ⟨6, 1, 3, 0⟩)
    ∧ decode 0x4A0411A4#32 = .ok (.vcl ⟨6, 2, 4, 0⟩) ∧ decode 0x4A030965#32 = .ok (.vch ⟨5, 1, 3, 0⟩)
    ∧ decode 0x4A0208E6#32 = .ok (.vcr ⟨3, 1, 2, 0⟩) ∧ decode 0x4B2228F3#32 = .ok (.vmov ⟨3, 5, 2, 9⟩)
    ∧ decode 0x4B40019D#32 = .ok (.vsar ⟨6, 10⟩) ∧ decode 0x4A000037#32 = .ok .vnop ∧ decode 0x4BFFFFFF#32 = .ok .vnull
    ∧ decode 0x4B8208F0#32 = .ok (.vrcp ⟨3, 1, 2, 12⟩) ∧ decode 0x4BE228F1#32 = .ok (.vrcpl ⟨3, 5, 2, 15⟩)
    ∧ decode 0x4B0230F2#32 = .ok (.vrcph ⟨3, 6, 2, 8⟩) ∧ decode 0x4B6218F4#32 = .ok (.vrsq ⟨3, 3, 2, 11⟩)
    ∧ decode 0x4B2238F5#32 = .ok (.vrsql ⟨3, 7, 2, 9⟩) ∧ decode 0x4B2200F6#32 = .ok (.vrsqh ⟨3, 0, 2, 9⟩) := by decide

/-- Loads and stores: section 2.2, program P6 and the examples of 41_load_store.md; moves: sections 2.1 and 2.9. -/
theorem test_decode_load_store_access :
    decode 0xC801007F#32 = .ok (.lbv ⟨0, 1, 0, -1⟩) ∧ decode 0xC801097F#32 = .ok (.lsv ⟨0, 1, 2, -1⟩)
    ∧ decode 0xC8011702#32 = .ok (.llv ⟨0, 1, 14, 2⟩) ∧ decode 0xC8021A00#32 = .ok (.ldv ⟨0, 2, 4, 0⟩)
    ∧ decode 0xC8012040#32 = .ok (.lqv ⟨0, 1, 0, -64⟩) ∧ decode 0xC8012801#32 = .ok (.lrv ⟨0, 1, 0, 1⟩)
    ∧ decode 0xC8023000#32 = .ok (.lpv ⟨0, 2, 0, 0⟩) ∧ decode 0xC8033800#32 = .ok (.luv ⟨0, 3, 0, 0⟩)
    ∧ decode 0xE8010380#32 = .ok (.sbv ⟨0, 1, 7, 0⟩) ∧ decode 0xE8010F80#32 = .ok (.ssv ⟨0, 1, 15, 0⟩)
    ∧ decode 0xE8011700#32 = .ok (.slv ⟨0, 1, 14, 0⟩) ∧ decode 0xE8011A00#32 = .ok (.sdv ⟨0, 1, 4, 0⟩)
    ∧ decode 0xE8012300#32 = .ok (.sqv ⟨0, 1, 6, 0⟩) ∧ decode 0xE8012801#32 = .ok (.srv ⟨0, 1, 0, 1⟩)
    ∧ decode 0xE8023000#32 = .ok (.spv ⟨0, 2, 0, 0⟩) ∧ decode 0xE8003FFF#32 = .ok (.suv ⟨0, 0, 15, -1⟩)
    ∧ decode 0x48002C80#32 = .ok (.mfc2 ⟨0, 5, 9⟩) ∧ decode 0x485FFFFF#32 = .ok (.cfc2 ⟨31, 3⟩)
    ∧ decode 0x48802F80#32 = .ok (.mtc2 ⟨0, 5, 15⟩) ∧ decode 0x48C0E800#32 = .ok (.ctc2 ⟨0, 1⟩) := by decide

/-- The refused words of TV-DEC-1. -/
theorem test_decode_refused :
    decode 0x00000000#32 = .error .badOp ∧ decode 0xFFFFFFFF#32 = .error .badOp ∧ decode 0x8C000000#32 = .error .badOp
    ∧ decode 0xCC000000#32 = .error .badOp ∧ decode 0xEC000000#32 = .error .badOp
    ∧ decode 0x4A000002#32 = .error .badFunct ∧ decode 0x4A00003E#32 = .error .badFunct
    ∧ decode 0x48200000#32 = .error .badSel ∧ decode 0x49000000#32 = .error .badSel ∧ decode 0x49FFFFFF#32 = .error .badSel
    ∧ decode 0xC8004000#32 = .error .badSub ∧ decode 0xC800F800#32 = .error .badSub
    ∧ decode 0xE8004800#32 = .error .badSub := by decide

/-! ## One step -/

/-- The state after one command. -/
def run (s : State) (iw sdata : Word) : Option State := nextState (step { s with commands := [⟨iw, sdata⟩] })

/-- Reset with registers `v1`, `v2`, `v3`. -/
def start (v1 v2 v3 : VReg) : State :=
  { State.reset with vr := ((State.reset.vr.set 1 v1).set 2 v2).set 3 v3 }

/-- A register of one value. -/
def splat (x : Lane) : VReg := Vector.replicate 8 x

/-- The low accumulator plane. -/
def low (t : State) : VReg := Vector.ofFn fun i : LaneIx => accLo t.acc[i]

/-- `v3` and the low plane. -/
def resultAndLow (t : State) : VReg × VReg := (t.vr[3], low t)

/-- `n` bytes of memory. -/
def bytesAt (t : State) (a n : Nat) : List Byte := (List.range n).map fun k => Memory.read t.mem (a + k)

/-- `mem[a] = a mod 256` from `a` on, `n` bytes. -/
def ramp (a n : Nat) : List Host.Cell :=
  Memory.writeAll [] ((List.range n).map fun k => (a + k, BitVec.ofNat 8 (a + k)))

/-- `v1` of section 2.2: register bytes A0 to AF. -/
def tagged : VReg := #v[0xA0A1#16, 0xA2A3, 0xA4A5, 0xA6A7, 0xA8A9, 0xAAAB, 0xACAD, 0xAEAF]

/-- The state of section 2.2 with a piece of its memory. -/
def memStart (m : List Host.Cell) : State := { start tagged (splat 0x5555) (splat 0) with mem := m }

/-- TV-ADD-1, VADD lines. -/
theorem test_vadd : (run { start #v[0x7FFF#16, 0x7FFF, 0x7FFF, 0x8000, 0x8000, 0xFFFF, 0xFFFF, 0x7FFE]
      #v[0x0001#16, 0x0000, 0x7FFF, 0xFFFF, 0x8000, 0x0001, 0x0000, 0x0000] (splat 0) with vco := 0xD6 }
      0x4A0208D0 0).map resultAndLow
    = some (#v[0x7FFF#16, 0x7FFF, 0x7FFF, 0x8000, 0x8000, 0x0000, 0x0000, 0x7FFF],
      #v[0x8000#16, 0x8000, 0xFFFF, 0x7FFF, 0x0001, 0x0000, 0x0000, 0x7FFF]) := by decide

/-- TV-SEL-1, row 3: the element code selects the second operand's lanes. -/
theorem test_vadd_element : (run (start #v[0x0001#16, 0x0002, 0x0003, 0x0004, 0x0005, 0x0006, 0x0007, 0x0008]
      #v[0x0010#16, 0x0020, 0x0030, 0x0040, 0x0050, 0x0060, 0x0070, 0x0080] (splat 0)) 0x4A6208D0 0).map (·.vr[3])
    = some #v[0x0021#16, 0x0022, 0x0043, 0x0044, 0x0065, 0x0066, 0x0087, 0x0088] := by decide

/-- TV-ADD-1, VSUB lines. -/
theorem test_vsub : (run { start #v[0x8000#16, 0x8000, 0x8000, 0x7FFF, 0x7FFF, 0x0000, 0x0000, 0x8000]
      #v[0x0001#16, 0x0000, 0x7FFF, 0x8000, 0x8000, 0x8000, 0x0000, 0x8000] (splat 0) with vco := 0x56 }
      0x4A0208D1 0).map resultAndLow
    = some (#v[0x8000#16, 0x8000, 0x8000, 0x7FFF, 0x7FFF, 0x7FFF, 0xFFFF, 0x0000],
      #v[0x7FFF#16, 0x7FFF, 0x0000, 0xFFFF, 0xFFFE, 0x8000, 0xFFFF, 0x0000]) := by decide

/-- TV-ADD-2, VADDC lines, the old flags all set. -/
theorem test_vaddc : (run { start #v[0xFFFF#16, 0x8000, 0x7FFF, 0xFFFF, 0, 0, 0, 0]
      #v[0xFFFF#16, 0x8000, 0x0001, 0x0001, 0, 0, 0, 0] (splat 0) with vco := 0xFFFF } 0x4A0208D4 0).map
        (fun t => (t.vr[3], t.vco)) = some (#v[0xFFFE#16, 0x0000, 0x8000, 0x0000, 0, 0, 0, 0], 0x000B#16) := by decide

/-- TV-ADD-3, low halves: `VSUBC v3, v1, v2`. -/
theorem test_vsubc : (run (start #v[0x0000#16, 0x0005, 0x0000, 0x0000, 0xFFFF, 0x0000, 0x5678, 0xFFFF]
      #v[0x0001#16, 0x0005, 0xFFFF, 0xFFFF, 0xFFFE, 0xFFFF, 0x5677, 0xFFFE] (splat 0)) 0x4A0208D5 0).map
        (fun t => (t.vr[3], t.vco))
    = some (#v[0xFFFF#16, 0x0000, 0x0001, 0x0001, 0x0001, 0x0001, 0x0001, 0x0001], 0xFD2D#16) := by decide

/-- The state of TV-LOG-1. -/
def logical1 : State :=
  { start #v[0xFFFF#16, 0x0000, 0xAAAA, 0x5555, 0x1234, 0x8000, 0x7FFF, 0x00FF]
      #v[0x0F0F#16, 0x0F0F, 0x5555, 0x5555, 0xFFFF, 0x8000, 0x8000, 0xFF00] (splat 0) with
    acc := Vector.replicate 8 0x777788889999#48 }

/-- TV-LOG-1; the accumulator is not written (R160, `LOGICAL_ACC_LO` false). -/
theorem test_vand : (run logical1 0x4A0208E8 0).map resultAndLow
    = some (#v[0x0F0F#16, 0x0000, 0x0000, 0x5555, 0x1234, 0x8000, 0x0000, 0x0000], splat 0x9999) := by decide

/-- TV-LOG-1, `LOGICAL_ACC_LO` true: the result goes to the low plane too. -/
theorem test_vand_accumulator : (run { logical1 with cfg := { logical1.cfg with logicalAccLo := true } } 0x4A0208E8 0).map
      (fun t => (t.acc[(0 : Fin 8)], t.acc[(4 : Fin 8)])) = some (0x777788880F0F#48, 0x777788881234#48) := by decide

/-- TV-LOG-1. -/
theorem test_vnand : (run logical1 0x4A0208E9 0).map (·.vr[3])
    = some #v[0xF0F0#16, 0xFFFF, 0xFFFF, 0xAAAA, 0xEDCB, 0x7FFF, 0xFFFF, 0xFFFF] := by decide

/-- TV-LOG-1. -/
theorem test_vor : (run logical1 0x4A0208EA 0).map (·.vr[3])
    = some #v[0xFFFF#16, 0x0F0F, 0xFFFF, 0x5555, 0xFFFF, 0x8000, 0xFFFF, 0xFFFF] := by decide

/-- TV-LOG-1. -/
theorem test_vnor : (run logical1 0x4A0208EB 0).map (·.vr[3])
    = some #v[0x0000#16, 0xF0F0, 0x0000, 0xAAAA, 0x0000, 0x7FFF, 0x0000, 0x0000] := by decide

/-- TV-LOG-1. -/
theorem test_vxor : (run logical1 0x4A0208EC 0).map (·.vr[3])
    = some #v[0xF0F0#16, 0x0F0F, 0xFFFF, 0x0000, 0xEDCB, 0x0000, 0xFFFF, 0xFFFF] := by decide

/-- TV-LOG-1. -/
theorem test_vnxor : (run logical1 0x4A0208ED 0).map (·.vr[3])
    = some #v[0x0F0F#16, 0xF0F0, 0x0000, 0xFFFF, 0x1234, 0xFFFF, 0x0000, 0x0000] := by decide

/-- The state of TV-MUL-1 with the accumulator its first command leaves. -/
def multiply1 : State :=
  { start #v[0x7FFF#16, 0x8000, 0x8000, 0x0001, 0xFFFF, 0x4000, 0xC000, 0x0000]
      #v[0x7FFF#16, 0x7FFF, 0x8000, 0x0001, 0x0001, 0x4000, 0x4000, 0x1234] (splat 0) with
    acc := #v[0x00007FFE8002#48, 0xFFFF80018000, 0x000080008000, 0x000000008002, 0x000000007FFE, 0x000020008000,
      0xFFFFE0008000, 0x000000008000] }

/-- TV-MUL-1: the accumulator does not count. -/
theorem test_vmulf : (run { multiply1 with acc := Vector.replicate 8 0x123456789ABC#48 } 0x4A0208C0 0).map
      (fun t => (t.vr[3], t.acc))
    = some (#v[0x7FFE#16, 0x8001, 0x7FFF, 0x0000, 0x0000, 0x2000, 0xE000, 0x0000], multiply1.acc) := by decide

/-- TV-MUL-1. -/
theorem test_vmulu : (run multiply1 0x4A0208C1 0).map (·.vr[3])
    = some #v[0x7FFE#16, 0x0000, 0xFFFF, 0x0000, 0x0000, 0x2000, 0x0000, 0x0000] := by decide

/-- TV-MUL-1, the first accumulate. -/
theorem test_vmacf : (run multiply1 0x4A0208C8 0).map (fun t => (t.vr[3], t.acc))
    = some (#v[0x7FFF#16, 0x8000, 0x7FFF, 0x0000, 0x0000, 0x4000, 0xC000, 0x0000],
      #v[0x0000FFFC8004#48, 0xFFFF00028000, 0x000100008000, 0x000000008004, 0x000000007FFC, 0x000040008000,
        0xFFFFC0008000, 0x000000008000]) := by decide

/-- TV-MUL-5, the document's scenario: a negative accumulator gives zero. -/
theorem test_vmacu : (run { start (splat 0) (splat 0x1234) (splat 0) with
      acc := #v[0x800000000000#48, 0xFFFFFFFFFFFF, 0xFFFF00000000, 0xFFFFFFFF0000, 0x000000000000, 0x00007FFF0000,
        0x000080000000, 0x7FFFFFFFFFFF] } 0x4A0208C9 0).map (·.vr[3])
    = some #v[0x0000#16, 0x0000, 0x0000, 0x0000, 0x0000, 0x7FFF, 0xFFFF, 0xFFFF] := by decide

/-- The sources of TV-MUL-2 with an accumulator. -/
def multiply2 (acc : AccReg) : State :=
  { start #v[0xFFFF#16, 0x8000, 0x0001, 0xFFFF, 0x0000, 0x1234, 0x8000, 0x7FFF]
      #v[0x7FFF#16, 0x8000, 0xFFFF, 0xFFFF, 0xFFFF, 0x0010, 0x7FFF, 0x0002] (splat 0) with acc := acc }

/-- TV-MUL-2, first line: unsigned by signed. -/
theorem test_vmudn : (run (multiply2 State.reset.acc) 0x4A0208C6 0).map (fun t => (t.vr[3], t.acc))
    = some (#v[0x8001#16, 0x0000, 0xFFFF, 0x0001, 0x0000, 0x2340, 0x8000, 0xFFFE],
      #v[0x00007FFE8001#48, 0xFFFFC0000000, 0xFFFFFFFFFFFF, 0xFFFFFFFF0001, 0x000000000000, 0x000000012340,
        0x00003FFF8000, 0x00000000FFFE]) := by decide

/-- TV-MUL-2, second line: the low clamp acts in lane 0 only. -/
theorem test_vmadn : (run (multiply2 #v[0x00007FFE8001#48, 0xFFFFC0000000, 0xFFFFFFFFFFFF, 0xFFFFFFFF0001,
      0x000000000000, 0x000000012340, 0x00003FFF8000, 0x00000000FFFE]) 0x4A0208CE 0).map (·.vr[3])
    = some #v[0xFFFF#16, 0x0000, 0xFFFE, 0x0002, 0x0000, 0x4680, 0x0000, 0xFFFC] := by decide

/-- TV-MUL-2, third line: the low product carries into the middle plane (lane 3). -/
theorem test_vmadl : (run (multiply2 #v[0x0000FFFD0002#48, 0xFFFF80000000, 0xFFFFFFFFFFFE, 0xFFFFFFFE0002,
      0x000000000000, 0x000000024680, 0x00007FFF0000, 0x00000001FFFC]) 0x4A0208CC 0).map (fun t => (t.vr[3], t.acc))
    = some (#v[0xFFFF#16, 0x4000, 0xFFFE, 0x0000, 0x0000, 0x4681, 0x3FFF, 0xFFFC],
      #v[0x0000FFFD8000#48, 0xFFFF80004000, 0xFFFFFFFFFFFE, 0xFFFFFFFF0000, 0x000000000000, 0x000000024681,
        0x00007FFF3FFF, 0x00000001FFFC]) := by decide

/-- TV-MUL-2, fourth line: signed by unsigned. -/
theorem test_vmudm : (run (multiply2 State.reset.acc) 0x4A0208C5 0).map (fun t => (t.vr[3], t.acc))
    = some (#v[0xFFFF#16, 0xC000, 0x0000, 0xFFFF, 0x0000, 0x0001, 0xC000, 0x0000],
      #v[0xFFFFFFFF8001#48, 0xFFFFC0000000, 0x00000000FFFF, 0xFFFFFFFF0001, 0x000000000000, 0x000000012340,
        0xFFFFC0008000, 0x00000000FFFE]) := by decide

/-- TV-MUL-2, fifth line. -/
theorem test_vmadm : (run (multiply2 #v[0xFFFFFFFF8001#48, 0xFFFFC0000000, 0x00000000FFFF, 0xFFFFFFFF0001,
      0x000000000000, 0x000000012340, 0xFFFFC0008000, 0x00000000FFFE]) 0x4A0208CD 0).map (·.vr[3])
    = some #v[0xFFFF#16, 0x8000, 0x0001, 0xFFFE, 0x0000, 0x0002, 0x8001, 0x0001] := by decide

/-- Program P5, step 1: `VMUDL v3, v1, v2`. -/
theorem test_vmudl : (run { start #v[0x8000#16, 0x0000, 0x0000, 0xFFFF, 0x0000, 0xFFFF, 0x8000, 0x0000]
      #v[0x8000#16, 0x0000, 0x8000, 0x0000, 0x0000, 0xFFFF, 0x8000, 0x0000] (splat 0) with
      acc := Vector.replicate 8 0xFFFFFFFFFFFF#48 } 0x4A0208C4 0).map (fun t => (t.vr[3], t.acc[(5 : Fin 8)]))
    = some (#v[0x4000#16, 0x0000, 0x0000, 0x0000, 0x0000, 0xFFFE, 0x4000, 0x0000], 0x00000000FFFE#48) := by decide

/-- TV-MUL-3, first command. -/
theorem test_vmudh : (run (start (splat 0x8000) (splat 0x8000) (splat 0)) 0x4A0208C7 0).map (fun t => (t.vr[3], t.acc))
    = some (splat 0x7FFF, Vector.replicate 8 0x400000000000#48) := by decide

/-- TV-MUL-3, last command: the sum 2^48 wraps to zero. -/
theorem test_vmadh : (run { start (splat 0x8000) (splat 0x8000) (splat 0) with
      acc := Vector.replicate 8 0xC00000000000#48 } 0x4A0208CF 0).map (fun t => (t.vr[3], t.acc))
    = some (splat 0, Vector.replicate 8 0#48) := by decide

/-- The high halves of TV-CMP-1, with the flags its VSUBC leaves. -/
def compare1 : State :=
  { start #v[0x0001#16, 0x0001, 0xFFFF, 0x8000, 0x7FFF, 0x0000, 0x1234, 0xFFFF]
      #v[0x0001#16, 0x0001, 0x0000, 0x7FFF, 0x7FFF, 0xFFFF, 0x1234, 0xFFFF] (splat 0) with vco := 0xFD2D }

/-- The result, the compare flag and the carry flag. -/
def resultAndFlags (t : State) : VReg × BitVec 16 × BitVec 16 := (t.vr[3], t.vcc, t.vco)

/-- TV-CMP-1. -/
theorem test_vlt : (run compare1 0x4A0208E0 0).map resultAndFlags
    = some (#v[0x0001#16, 0x0001, 0xFFFF, 0x8000, 0x7FFF, 0xFFFF, 0x1234, 0xFFFF], 0x000D#16, 0#16) := by decide

/-- TV-CMP-1. -/
theorem test_vge : (run compare1 0x4A0208E3 0).map resultAndFlags
    = some (#v[0x0001#16, 0x0001, 0x0000, 0x7FFF, 0x7FFF, 0x0000, 0x1234, 0xFFFF], 0x00F2#16, 0#16) := by decide

/-- TV-CMP-1. -/
theorem test_veq : (run compare1 0x4A0208E1 0).map resultAndFlags
    = some (#v[0x0001#16, 0x0001, 0x0000, 0x7FFF, 0x7FFF, 0xFFFF, 0x1234, 0xFFFF], 0x0002#16, 0#16) := by decide

/-- TV-CMP-1. -/
theorem test_vne : (run compare1 0x4A0208E2 0).map resultAndFlags
    = some (#v[0x0001#16, 0x0001, 0xFFFF, 0x8000, 0x7FFF, 0x0000, 0x1234, 0xFFFF], 0x00FD#16, 0#16) := by decide

/-- TV-CMP-2, first command, flags all set before. -/
theorem test_vch : (run { start #v[0x0005#16, 0xFFFB, 0x0003, 0xFFFC, 0xFFFC, 0x0003, 0xFFFD, 0x0002] (splat 0x0003)
      (splat 0) with vco := 0xFFFF, vcc := 0xFFFF, vce := 0xFF } 0x4A0208E5 0).map (fun t => (resultAndFlags t, t.vce))
    = some ((#v[0x0003#16, 0xFFFD, 0x0003, 0xFFFD, 0xFFFD, 0x0003, 0xFFFD, 0x0002], 0x255A#16, 0x835A#16), 0x18#8) := by
  decide

/-- TV-CMP-2, second command, on the flags of the first. -/
theorem test_vcl : (run { start #v[0x1111#16, 0x2222, 0x1234, 0xF000, 0xF002, 0x0123, 0x8000, 0x9999]
      #v[0x0FFF#16, 0x0FFF, 0x0FFF, 0x0FFF, 0x0FFF, 0x0456, 0x0001, 0x0001] (splat 0) with
      vco := 0x835A, vcc := 0x255A, vce := 0x18 } 0x4A0208E4 0).map (fun t => (resultAndFlags t, t.vce))
    = some ((#v[0x0FFF#16, 0xF001, 0x0FFF, 0xF001, 0xF002, 0x0123, 0x8000, 0x9999], 0x050A#16, 0x0000#16), 0x00#8) := by
  decide

/-- R197's example. -/
theorem test_vcr : (run { start #v[0x0005#16, 0xFFFB, 0x0005, 0xFFFB, 0x0005, 0x0005, 0x8000, 0x0000]
      #v[0x0003#16, 0x0003, 0xFFFD, 0xFFFD, 0xFFFB, 0xFFFA, 0x8000, 0x0000] (splat 0) with
      vco := 0xFFFF, vcc := 0xFFFF, vce := 0xFF } 0x4A0208E6 0).map (fun t => (resultAndFlags t, t.vce))
    = some ((#v[0x0003#16, 0xFFFC, 0x0005, 0xFFFB, 0x0005, 0x0005, 0x8000, 0x0000], 0xF56A#16, 0x0000#16), 0x00#8) := by
  decide

/-- TV-MRG-1. -/
theorem test_vmrg : (run { start #v[0x1111#16, 0x2222, 0x3333, 0x4444, 0x5555, 0x6666, 0x7777, 0x8888]
      #v[0xAAA0#16, 0xAAA1, 0xAAA2, 0xAAA3, 0xAAA4, 0xAAA5, 0xAAA6, 0xAAA7] (splat 0) with
      vcc := 0xFF5A, vco := 0xBEEF } 0x4A0208E7 0).map (fun t => (t.vr[3], t.vco))
    = some (#v[0xAAA0#16, 0x2222, 0xAAA2, 0x4444, 0x5555, 0xAAA5, 0x7777, 0xAAA7], 0xBEEF#16) := by decide

/-- The state of TV-ABS-1. -/
def abs1 : State := start #v[0x0001#16, 0xFFFF, 0x0000, 0x8000, 0x7FFF, 0x8001, 0x0000, 0x1234]
  #v[0x8000#16, 0x8000, 0x8000, 0x8000, 0x8000, 0x7FFF, 0x0000, 0x8001] (splat 0)

/-- TV-ABS-1, `ABS_MIN_WRAPS` true. -/
theorem test_vabs : (run abs1 0x4A0208D3 0).map resultAndLow
    = some (#v[0x8000#16, 0x8000, 0x0000, 0x8000, 0x8000, 0x8001, 0x0000, 0x8001],
      #v[0x8000#16, 0x8000, 0x0000, 0x8000, 0x8000, 0x8001, 0x0000, 0x8001]) := by decide

/-- TV-ABS-1, `ABS_MIN_WRAPS` false. -/
theorem test_vabs_saturates : (run { abs1 with cfg := { abs1.cfg with absMinWraps := false } } 0x4A0208D3 0).map resultAndLow
    = some (#v[0x8000#16, 0x7FFF, 0x0000, 0x7FFF, 0x8000, 0x8001, 0x0000, 0x8001],
      #v[0x8000#16, 0x8000, 0x0000, 0x8000, 0x8000, 0x8001, 0x0000, 0x8001]) := by decide

/-- TV-MOV-1, third command: bits 15:14 ignored, no broadcast. -/
theorem test_vmov : (run (start (splat 0) #v[0x8000#16, 0x8000, 0x8000, 0x8000, 0x8000, 0x7FFF, 0x0000, 0x8001]
      #v[0x8001#16, 0xDDD1, 0xDDD2, 0xDDD3, 0xDDD4, 0x8000, 0xDDD6, 0xDDD7]) 0x4A02D0F3 0).map resultAndLow
    = some (#v[0x8001#16, 0xDDD1, 0x8000, 0xDDD3, 0xDDD4, 0x8000, 0xDDD6, 0xDDD7],
      #v[0x8000#16, 0x8000, 0x8000, 0x8000, 0x8000, 0x7FFF, 0x0000, 0x8001]) := by decide

/-- TV-MUL-5, last lines: the middle plane. -/
theorem test_vsar : (run { State.reset with
      acc := #v[0x800000000000#48, 0xFFFFFFFFFFFF, 0xFFFF00000000, 0xFFFFFFFF0000, 0x000000000000, 0x00007FFF0000,
        0x000080000000, 0x7FFFFFFFFFFF] } 0x4B20019D 0).map (·.vr[6])
    = some #v[0x0000#16, 0xFFFF, 0x0000, 0xFFFF, 0x0000, 0x7FFF, 0x8000, 0xFFFF] := by decide

/-- TV-MUL-5: any other selector gives zero. -/
theorem test_vsar_other : (run { State.reset with acc := Vector.replicate 8 0xFFFFFFFFFFFF#48 } 0x4A00019D 0).map (·.vr[6])
    = some (splat 0) := by decide

/-- TV-NOP-1. -/
theorem test_vnop_vnull : (run logical1 0x4A000037 0).map resultAndLow = some (splat 0, splat 0x9999)
    ∧ (run logical1 0x4BFFFFFF 0).map resultAndLow = some (splat 0, splat 0x9999) := by decide

/-- The state of TV-RCP-2 with the latches its table gives before a line. -/
def recip2 (divIn divOut : BitVec 16) (dp : Bool) : State :=
  { start (splat 0) #v[0x0000#16, 0x0001, 0x0002, 0x0003, 0x8000, 0xFFFF, 0x1234, 0x5678]
      #v[0xDDD0#16, 0xDDD1, 0xDDD2, 0xDDD3, 0xDDD4, 0xDDD5, 0xDDD6, 0xDDD7] with
    divIn := divIn, divOut := divOut, dp := dp }

/-- Lane `i` of `v3`, and the three latches. -/
def laneAndLatches (i : LaneIx) (t : State) : Lane × BitVec 16 × BitVec 16 × Bool :=
  (t.vr[(3 : Fin 32)][i], t.divIn, t.divOut, t.dp)

/-- TV-RCP-2, first line, the document's zero input: `DP` discarded, `DIV_IN` ignored. -/
theorem test_vrcp_zero : (run (recip2 0x1111 0x2222 true) 0x4B0200F0 0).map (laneAndLatches 0)
    = some (0xFFFF, 0x1111, 0x7FFF, false) := by decide

/-- TV-RCP-2, third line: a negative input. -/
theorem test_vrcp_negative : (run (recip2 0x1111 0xFFFF false) 0x4BA210F0 0).map (laneAndLatches 2)
    = some (0x3FFF, 0x1111, 0x8000, false) := by decide

/-- TV-RCP-2, fourth line. -/
theorem test_vrsq : (run (recip2 0x1111 0x8000 false) 0x4B6218F4 0).map (laneAndLatches 3)
    = some (0x8000, 0x1111, 0x49E6, false) := by decide

/-- TV-RCP-2, fifth line. -/
theorem test_vrcph : (run (recip2 0x1111 0x49E6 false) 0x4BC220F2 0).map (laneAndLatches 4)
    = some (0x49E6, 0x1234, 0x49E6, true) := by decide

/-- TV-RCP-2, sixth line: the 32-bit input 12345678. -/
theorem test_vrcpl : (run (recip2 0x1234 0x49E6 true) 0x4BE228F1 0).map (laneAndLatches 5)
    = some (0x0007, 0x1234, 0x0000, false) := by decide

/-- TV-RCP-2, the broken pair: with `DP` clear the lane counts alone. -/
theorem test_vrcpl_alone : (run (recip2 0x1234 0x3FFF false) 0x4BE228F1 0).map (laneAndLatches 5)
    = some (0x7B5E, 0x1234, 0x0001, false) := by decide

/-- TV-RCP-2, eighth line. -/
theorem test_vrsql : (run (recip2 0x0000 0x0000 true) 0x4B2238F5 0).map (laneAndLatches 7)
    = some (0xC000, 0x0000, 0x7FFF, false) := by decide

/-- TV-RCP-2, last line. -/
theorem test_vrsqh : (run (recip2 0x0000 0x7FFF false) 0x4B2200F6 0).map (laneAndLatches 0)
    = some (0x7FFF, 0x0001, 0x7FFF, true) := by decide

/-- `v5` of TV-REG-1. -/
def access1 : State :=
  { State.reset with vr := State.reset.vr.set 5 #v[0x0011#16, 0x2233, 0x4455, 0x6677, 0x8899, 0xAABB, 0xCCDD, 0xEEFF] }

/-- TV-REG-1: an odd byte index, sign-extended. -/
theorem test_mfc2 : (run access1 0x48002C80 0).map (·.sdataOut) = some (some 0xFFFF99AA#32) := by decide

/-- TV-REG-1, last line's wrap from byte 15 to byte 0: FF then 00. -/
theorem test_mfc2_wraps : (run access1 0x48002F80 0).map (·.sdataOut) = some (some 0xFFFFFF00#32) := by decide

/-- TV-REG-1. -/
theorem test_mtc2 : (run access1 0x48802F00 0xFFFF1234).map (·.vr[5])
    = some #v[0x0011#16, 0x2233, 0x4455, 0x6677, 0x8899, 0xAABB, 0xCCDD, 0x1234] := by decide

/-- TV-REG-1: at byte 15 the low byte is dropped. -/
theorem test_mtc2_last_byte : (run access1 0x48802F80 0x00005678).map (·.vr[5])
    = some #v[0x0011#16, 0x2233, 0x4455, 0x6677, 0x8899, 0xAABB, 0xCCDD, 0xEE56] := by decide

/-- TV-FLAG-2: sign extension of `VCO`; number 3 is `VCE` (0x7F under either `VCE_READ_SEXT`). -/
theorem test_cfc2 : (run { State.reset with vco := 0x8001 } 0x48402280 0).map (·.sdataOut) = some (some 0xFFFF8001#32)
    ∧ (run { State.reset with vce := 0x7F, cfg := { State.reset.cfg with vceReadSext := true } } 0x48401800 0).map (·.sdataOut)
      = some (some 0x7F#32) := by decide

/-- TV-FLAG-2: `VCE = 0x80` under both values of `VCE_READ_SEXT`. -/
theorem test_cfc2_vce :
    (run { State.reset with vce := 0x80, cfg := { State.reset.cfg with vceReadSext := false } } 0x48401000 0).map (·.sdataOut)
      = some (some 0x80#32)
    ∧ (run { State.reset with vce := 0x80, cfg := { State.reset.cfg with vceReadSext := true } } 0x48401000 0).map (·.sdataOut)
      = some (some 0xFFFFFF80#32) := by decide

/-- TV-FLAG-2: `rd` field 29 selects `VCC`. -/
theorem test_ctc2 : (run State.reset 0x48C0E800 0xAAAA5555).map (fun t => (t.vco, t.vcc, t.vce))
    = some (0x0000, 0x5555, 0x00) := by decide

/-- TV-FLAG-1: packing is lane `i` to bit `i`. -/
theorem test_flag_forms : packMask #v[0xFFFF#16, 0, 0xFFFF, 0, 0xFFFF, 0, 0xFFFF, 0] = 0x55
    ∧ laneMask 0xAA = #v[0#16, 0xFFFF, 0, 0xFFFF, 0, 0xFFFF, 0, 0xFFFF]
    ∧ packMask #v[0xFFFF#16, 0, 0, 0, 0, 0, 0, 0] = 0x01 := by decide

/-- TV-CLAMP-1 at the boundaries. -/
theorem test_clamp_s16 : clampS16 32768 = 0x7FFF ∧ clampS16 32767 = 0x7FFF ∧ clampS16 (-32768) = 0x8000
    ∧ clampS16 (-32769) = 0x8000 ∧ clampS16 (-1) = 0xFFFF := by decide

/-- TV-CLAMP-2 at the boundaries: the middle-plane clamps. -/
theorem test_clamp_mid : clampSignedMid 0x00008000ABCD = 0x7FFF ∧ clampSignedMid 0xFFFF80000000 = 0x8000
    ∧ clampSignedMid 0xFFFF7FFFFFFF = 0x8000 ∧ clampUnsignedMid 0x00007FFFFFFF = 0x7FFF
    ∧ clampUnsignedMid 0x000080000000 = 0xFFFF ∧ clampUnsignedMid 0xFFFFFFFFFFFF = 0x0000 := by decide

/-- R106's formula on an accumulator whose bits 47:31 are not all equal: the result is the middle plane all the same, against
the rule's remark (log 19). -/
theorem test_clamp_signed_mid_remark : clampSignedMid 0x00017FFF0000 = 0x7FFF ∧ accMd 0x00017FFF0000 = 0x7FFF := by decide

/-- TV-CLAMP-2 at the boundaries: the low-plane clamp. -/
theorem test_clamp_low : clampUnsignedLow 0x00007FFFABCD = 0xABCD ∧ clampUnsignedLow 0x00008000ABCD = 0xFFFF
    ∧ clampUnsignedLow 0xFFFF8000ABCD = 0xABCD ∧ clampUnsignedLow 0xFFFF7FFFABCD = 0x0000 := by decide

/-- TV-RCP-1: zero, a power of two, an odd and an even shift. -/
theorem test_rcp_core : rcpCore Config.recommended 0x00000000 false = 0x7FFFFFFF
    ∧ rcpCore Config.recommended 0x00000001 true = 0x7FFFC000 ∧ rcpCore Config.recommended 0x00000002 true = 0x5A824000
    ∧ rcpCore Config.recommended 0x00000003 false = 0x2AAAA000 := by decide

/-- TV-RCP-1 around -32768, where the magnitude changes its form, and the most negative input. -/
theorem test_rcp_core_negative : rcpCore Config.recommended 0xFFFF8001 false = 0xFFFEFFBF
    ∧ rcpCore Config.recommended 0xFFFF8000 true = 0xFFFF0000 := by decide +kernel

/-- The same. -/
theorem test_rcp_core_ones_complement : rcpCore Config.recommended 0xFFFF7FFF true = 0xFF4AFB7F
    ∧ rcpCore Config.recommended 0x80000000 true = 0xFFFF4ACD := by decide +kernel

/-- TV-LS-5: byte 15 only. -/
theorem test_lbv : (run (memStart (ramp 0x13E 3)) 0xC80107BF 0x100).map (·.vr[1])
    = some #v[0xA0A1#16, 0xA2A3, 0xA4A5, 0xA6A7, 0xA8A9, 0xAAAB, 0xACAD, 0xAE3F] := by decide

/-- TV-LS-5: a negative offset. -/
theorem test_lsv : (run (memStart (ramp 0x3E 6)) 0xC801097F 0x42).map (·.vr[1])
    = some #v[0xA0A1#16, 0x4041, 0xA4A5, 0xA6A7, 0xA8A9, 0xAAAB, 0xACAD, 0xAEAF] := by decide

/-- TV-LS-6: an odd address. -/
theorem test_llv : (run (memStart (ramp 0x201 4)) 0xC8011200 0x201).map (·.vr[1])
    = some #v[0xA0A1#16, 0xA2A3, 0x0102, 0x0304, 0xA8A9, 0xAAAB, 0xACAD, 0xAEAF] := by decide

/-- R125's example: the register does not wrap on a load. -/
theorem test_llv_register_end : (run (memStart (ramp 0x38 4)) 0xC8011702 0x30).map (·.vr[1])
    = some #v[0xA0A1#16, 0xA2A3, 0xA4A5, 0xA6A7, 0xA8A9, 0xAAAB, 0xACAD, 0x3839] := by decide

/-- TV-LS-8: the recommended bus wraps at its top, and again mod 4096. -/
theorem test_ldv : (run (memStart (ramp 0 4 ++ ramp 0xFFC 4)) 0xC8011800 0x1FFC).map (·.vr[1])
    = some #v[0xFCFD#16, 0xFEFF, 0x0001, 0x0203, 0xA8A9, 0xAAAB, 0xACAD, 0xAEAF] := by decide

/-- TV-LS-3, first command: to the end of the line. -/
theorem test_lqv : (run (memStart (ramp 0x100 32)) 0xC8012000 0x105).map (·.vr[1])
    = some #v[0x0506#16, 0x0708, 0x090A, 0x0B0C, 0x0D0E, 0x0FAB, 0xACAD, 0xAEAF] := by decide

/-- TV-LS-3, second command, on what the first leaves. -/
theorem test_lrv : (run { start #v[0x0506#16, 0x0708, 0x090A, 0x0B0C, 0x0D0E, 0x0FAB, 0xACAD, 0xAEAF] (splat 0) (splat 0) with
      mem := ramp 0x100 32 } 0xC8012801 0x105).map (·.vr[1])
    = some #v[0x0506#16, 0x0708, 0x090A, 0x0B0C, 0x0D0E, 0x0F10, 0x1112, 0x1314] := by decide

/-- TV-LS-7. -/
theorem test_lpv : (run (memStart (ramp 0xF0 24)) 0xC8023000 0xF9).map (·.vr[2])
    = some #v[0xF900#16, 0xFA00, 0xFB00, 0xFC00, 0xFD00, 0xFE00, 0xFF00, 0x0000] := by decide

/-- TV-LS-7. -/
theorem test_luv : (run (memStart (ramp 0xF0 24)) 0xC8033800 0xF9).map (·.vr[3])
    = some #v[0x7C80#16, 0x7D00, 0x7D80, 0x7E00, 0x7E80, 0x7F00, 0x7F80, 0x0000] := by decide

/-- R131's example. -/
theorem test_sbv : (run (memStart []) 0xE8010380 0x123).map (·.mem) = some [(0x123, 0xA7#8)] := by decide

/-- R132's example: the register index wraps. -/
theorem test_ssv : (run (memStart []) 0xE8010F80 0x40).map (·.mem) = some [(0x40, 0xAF#8), (0x41, 0xA0)] := by decide

/-- R133's example. -/
theorem test_slv : (run (memStart []) 0xE8011700 0x50).map (fun t => bytesAt t 0x4F 6)
    = some [0x00#8, 0xAE, 0xAF, 0xA0, 0xA1, 0x00] := by decide

/-- TV-LS-2: an odd address. -/
theorem test_sdv : (run (memStart []) 0xE8011A00 0x303).map (fun t => bytesAt t 0x303 8)
    = some [0xA4#8, 0xA5, 0xA6, 0xA7, 0xA8, 0xA9, 0xAA, 0xAB] := by decide

/-- TV-LS-4, first command: nothing past the end of the line. -/
theorem test_sqv : (run (memStart []) 0xE8012000 0x30B).map (fun t => bytesAt t 0x30A 7)
    = some [0x00#8, 0xA0, 0xA1, 0xA2, 0xA3, 0xA4, 0x00] := by decide

/-- TV-LS-4, second command. -/
theorem test_srv : (run (memStart []) 0xE8012801 0x30B).map (fun t => bytesAt t 0x30F 13)
    = some [0x00#8, 0xA5, 0xA6, 0xA7, 0xA8, 0xA9, 0xAA, 0xAB, 0xAC, 0xAD, 0xAE, 0xAF, 0x00] := by decide

/-- TV-LS-7. -/
theorem test_spv : (run (start (splat 0) #v[0xF900#16, 0xFA00, 0xFB00, 0xFC00, 0xFD00, 0xFE00, 0xFF00, 0x0000] (splat 0))
      0xE8023000 0x300).map (fun t => bytesAt t 0x300 8)
    = some [0xF9#8, 0xFA, 0xFB, 0xFC, 0xFD, 0xFE, 0xFF, 0x00] := by decide

/-- TV-LS-7. -/
theorem test_suv : (run (start (splat 0) (splat 0) #v[0x7C80#16, 0x7D00, 0x7D80, 0x7E00, 0x7E80, 0x7F00, 0x7F80, 0x0000])
      0xE8033801 0x300).map (fun t => bytesAt t 0x308 8)
    = some [0xF9#8, 0xFA, 0xFB, 0xFC, 0xFD, 0xFE, 0xFF, 0x00] := by decide

/-- The bus of program P6 (a): 4096 bytes, every address from 0x1000 on refused, the lowest reported. -/
def topBus : Bus := ⟨4096, [], [⟨0x1000, 0x100000000⟩], [⟨0x1000, 0x100000000⟩], []⟩

/-- The address a step faults on. -/
def faultOf (s : State) (iw sdata : Word) : Option Word :=
  match step { s with commands := [⟨iw, sdata⟩] } with
  | .fault (.busFault a) => some a
  | _ => none

/-- The start state of program P6 (a). -/
def top1 : State := { memStart (ramp 0xFF8 8) with cfg := { State.reset.cfg with bus := topBus } }

/-- P6 (a), the four commands that fault, each with the address the spec gives. -/
theorem test_bus_faults : faultOf top1 0xE8011800 0xFFC = some 0x1000 ∧ faultOf top1 0xC8011C00 0xFFC = some 0x1000
    ∧ faultOf top1 0xC8012800 0x1004 = some 0x1000 ∧ faultOf top1 0xC8013000 0xFFC = some 0x1000 := by decide

/-- P6 (a)'s bus reports the lowest address whatever the order of the transaction: LPV v1[2] at 0x1000 names 0x100E first
(R129), LDV v1[0] there names 0x1000 first (R126). -/
theorem test_lowest_reported : faultOf top1 0xC8013100 0x1000 = some 0x1000
    ∧ faultOf top1 0xC8011800 0x1000 = some 0x1000 := by decide

/-- A bus that answers one transaction otherwise than its ranges say: reads of 0x20, 0x21 in this order fault, and it reports
the higher (R51, R249: the bus's choice); every other transaction is accepted. -/
def pairBus : Bus := ⟨4096, [], [], [], [⟨.read, [0x20#32, 0x21], some 0x21⟩, ⟨.read, [0x30#32], some 0x99⟩]⟩

/-- The state of the tests with that bus. -/
def pair1 : State := { memStart [] with cfg := { State.reset.cfg with bus := pairBus } }

/-- LSV at 0x20 is that transaction. -/
theorem test_whole_list_answer : faultOf pair1 0xC8010800 0x20 = some 0x21 := by decide

/-- Another order, a part of it and a write of it are other transactions; a fault of no address of the list counts for
nothing (R51). -/
theorem test_other_lists_accepted : busAnswer pair1 .read [0x21#32, 0x20] = none ∧ busAnswer pair1 .read [0x20#32] = none
    ∧ busAnswer pair1 .write [0x20#32, 0x21] = none ∧ busAnswer pair1 .read [0x30#32] = none := by decide

/-- A bus of a size that is no power of two, and one with a place of its own for an address. -/
theorem test_bus_places : busIndex ⟨5000, [], [], [], []⟩ 5001#32 = 1
    ∧ busIndex ⟨4096, [(0x10000000#32, 4096)], [], [], []⟩ 0x10000000#32 = 4096
    ∧ busIndex ⟨4096, [(0x10000000#32, 4096)], [], [], []⟩ 0x10000001#32 = 1 := by decide

/-- P6 (a), command 5: no byte, no bus call, no fault. -/
theorem test_no_bytes_no_fault : (run top1 0xC8012800 0x1000).map (·.vr[1]) = some tagged := by decide

/-! ## Witnesses: for every statement with hypotheses, a concrete state and operands that meet them, clause by clause -/

/-- A state with a command presented. -/
def presented : State := { State.reset with commands := [⟨0x4A0208D0, 0⟩] }

/-- A presented command that decodes (for `withFetchWord` too), one that does not, and a state with none presented. -/
theorem witness_StepRunsThePresentedCommand :
    (presented.commands = [⟨0x4A0208D0, 0⟩] ∧ decode 0x4A0208D0#32 = .ok (.vadd ⟨3, 1, 2, 0⟩))
      ∧ (({ State.reset with commands := [⟨0, 0⟩] } : State).commands = [⟨0, 0⟩] ∧ decode 0#32 = .error .badOp)
      ∧ State.reset.commands = [] := by decide

/-- The first and the last index that R212's formula covers. -/
theorem witness_ReciprocalTableValues : (1 : Fin 512) ≠ 0 ∧ (511 : Fin 512) ≠ 0 := by decide

/-- Well-formed instructions at both ends of the offset. -/
theorem witness_DecodeInvertsEncode : (Instr.suv ⟨31, 31, 15, -64⟩).wf = true ∧ (Instr.lbv ⟨0, 0, 0, 63⟩).wf = true
    ∧ (Instr.vmulf ⟨31, 31, 31, 15⟩).wf = true := by decide

/-- A word with ignored bits set decodes, and its instruction is well formed. -/
theorem witness_DecodeAcceptsExactlyTheEncodings : decode 0x4BFFFFFF#32 = .ok .vnull
    ∧ Instr.vnull.wf = true ∧ 0x4BFFFFFF#32 &&& ~~~(ignoredBits .vnull) = encode .vnull := by decide

/-- A word of a row, and a presented word for each reason: the first and the last refused value of a field. -/
theorem witness_EveryWordIsOneRowOrRefused :
    (∃ r ∈ opcodeRows, 0xC8003FFF#32 &&& r.mask = r.pattern) ∧ decode 0xC8004000#32 = .error .badSub
      ∧ decode 0xE800F800#32 = .error .badSub ∧ decode 0x4A000002#32 = .error .badFunct
      ∧ decode 0x4A00003E#32 = .error .badFunct ∧ decode 0x48200000#32 = .error .badSel
      ∧ decode 0x49E00000#32 = .error .badSel ∧ decode 0x00000000#32 = .error .badOp
      ∧ decode 0xFFFFFFFF#32 = .error .badOp := by decide

/-- A state that meets the invariant and a step from it that stores a byte. -/
theorem witness_StepKeepsTheInvariant :
    ({ memStart [] with commands := [⟨0xE8010380, 0x123⟩] } : State).Inv
      ∧ (nextState (step { memStart [] with commands := [⟨0xE8010380, 0x123⟩] })).isSome = true :=
  ⟨inv_of_pow 12 (by decide) (by decide) rfl rfl (by decide) (by decide), by decide⟩

/-- An instruction of each of the three kinds. -/
theorem witness_OutcomeOfEveryInstruction : isLS (.vadd ⟨0, 0, 0, 0⟩) = false
    ∧ (isLS (.lqv ⟨0, 0, 0, 0⟩) = true ∧ isStore (.lqv ⟨0, 0, 0, 0⟩) = false)
    ∧ (isLS (.sqv ⟨0, 0, 0, 0⟩) = true ∧ isStore (.sqv ⟨0, 0, 0, 0⟩) = true) := by decide

/-- The reset state's bus, and two addresses that are one byte. -/
theorem witness_NothingFaultsOnTheRecommendedBus : State.reset.cfg.bus = Bus.recommended
    ∧ (0x1FFF#32).toNat % 4096 = (0x0FFF#32).toNat % 4096 := by decide

/-- Two states that agree in lane 7 and differ in lane 0, for VCL, which reads every flag. -/
theorem witness_LanesAreIndependent :
    let o : V3 := ⟨3, 1, 2, 0⟩
    let s := start (splat 1) (splat 2) (splat 0)
    let u : State := { start ((splat 1).set 0 9) (splat 2) (splat 0) with vco := 0x0101 }
    laneWise (.vcl o) = some o ∧ s.cfg = u.cfg ∧ S s o 7 = S u o 7 ∧ T s o 7 = T u o 7
      ∧ s.acc[(7 : Fin 8)] = u.acc[(7 : Fin 8)] ∧ carry s 7 = carry u 7 ∧ notEq s 7 = notEq u 7 ∧ le s 7 = le u 7
      ∧ ge s 7 = ge u 7 ∧ ce s 7 = ce u 7 ∧ S s o 0 ≠ S u o 0 :=
  ⟨rfl, rfl, by decide⟩

/-- A completed instruction that writes no flag, one that clears `VCO`, one that clears `VCE`. -/
theorem witness_OnlyTheListedInstructionsWriteAFlag :
    (writesVco (.vand ⟨3, 1, 2, 0⟩) = false ∧ writesVcc (.vand ⟨3, 1, 2, 0⟩) = false
        ∧ writesVce (.vand ⟨3, 1, 2, 0⟩) = false ∧ (run logical1 0x4A0208E8 0).isSome = true)
      ∧ (clearsVco (.vadd ⟨3, 1, 2, 0⟩) = true ∧ (run logical1 0x4A0208D0 0).isSome = true)
      ∧ (clearsVce (.vcl ⟨3, 1, 2, 0⟩) = true ∧ (run logical1 0x4A0208E4 0).isSome = true) := by decide

/-- An instruction on none of the three readers' lists, and the boundary of CFC2's flag number. -/
theorem witness_OnlyTheListedInstructionsReadAFlag :
    (readsVco (.vand ⟨3, 1, 2, 0⟩) = false ∧ readsVcc (.vand ⟨3, 1, 2, 0⟩) = false ∧ readsVce (.vand ⟨3, 1, 2, 0⟩) = false)
      ∧ readsVce (.cfc2 ⟨0, 1⟩) = false ∧ readsVce (.cfc2 ⟨0, 2⟩) = true := by decide

/-- A completed writer of the low plane, and a completed instruction that writes no plane. -/
theorem witness_OnlyTheListedInstructionsWriteTheAccumulator :
    (writesAcc (.vadd ⟨3, 1, 2, 0⟩) = false ∧ (run logical1 0x4A0208D0 0).isSome = true)
      ∧ (writesAcc (.vand ⟨3, 1, 2, 0⟩) = false ∧ writesAccLo (.vand ⟨3, 1, 2, 0⟩) = false
        ∧ logical1.cfg.logicalAccLo = false ∧ (run logical1 0x4A0208E8 0).isSome = true)
      ∧ (writesAccLo (.mfc2 ⟨0, 5, 0⟩) = false ∧ isLogical (.mfc2 ⟨0, 5, 0⟩) = false) := by decide

/-- A completed instruction of each of the three kinds. -/
theorem witness_OnlyTheReciprocalInstructionsChangeTheLatches :
    (isRecipResult (.vrcp ⟨3, 0, 2, 8⟩) = true ∧ (run (recip2 0 0 true) 0x4B0200F0 0).isSome = true)
      ∧ (isRecipHigh (.vrcph ⟨3, 4, 2, 14⟩) = true ∧ (run (recip2 0 0 true) 0x4BC220F2 0).isSome = true)
      ∧ (isRecipResult (.vadd ⟨3, 1, 2, 0⟩) = false ∧ isRecipHigh (.vadd ⟨3, 1, 2, 0⟩) = false) := by decide

/-- A completed instruction with a destination register, and one with a destination lane. -/
theorem witness_OnlyTheDestinationRegisterChanges :
    (destination (.vadd ⟨3, 1, 2, 0⟩) ≠ some 31 ∧ (run logical1 0x4A0208D0 0).isSome = true)
      ∧ (destination (.vrcp ⟨3, 0, 2, 8⟩) = some 3 ∧ destinationLane (.vrcp ⟨3, 0, 2, 8⟩) = some 0
        ∧ (run (recip2 0 0 true) 0x4B0200F0 0).isSome = true) := by decide

/-- A completed store, and a completed instruction that is none and returns no scalar value. -/
theorem witness_OnlyStoresChangeMemoryOnlyMovesReturnAScalar :
    (isStore (.sbv ⟨0, 1, 7, 0⟩) = true ∧ (run (memStart []) 0xE8010380 0x123).isSome = true)
      ∧ (isStore (.vadd ⟨3, 1, 2, 0⟩) = false ∧ (run logical1 0x4A0208D0 0).isSome = true)
      ∧ (∀ o, Instr.vadd ⟨3, 1, 2, 0⟩ ≠ .mfc2 o) ∧ (∀ o, Instr.vadd ⟨3, 1, 2, 0⟩ ≠ .cfc2 o) :=
  ⟨by decide, by decide, fun _ h => (by cases h), fun _ h => (by cases h)⟩

/-- An accumulator whose bits 47:31 are equal, the largest such (TV-CLAMP-2). -/
theorem witness_ClampsSaturateAndAreIdempotent :
    ∀ k : Fin 17, (0x00007FFFFFFF#48 : AccLane).getLsbD (31 + k.val) = (0x00007FFFFFFF#48 : AccLane).getLsbD 47 := by decide

/-- A lane mask (TV-FLAG-1). -/
theorem witness_FlagFormsRoundTrip :
    let m : VReg := #v[0xFFFF#16, 0, 0xFFFF, 0, 0xFFFF, 0, 0xFFFF, 0]
    ∀ i : LaneIx, m[i] = 0x0000#16 ∨ m[i] = 0xFFFF#16 := by decide

/-- Halves that are not the second instruction's sources; a 32-bit sum and difference at the ends of the range. -/
theorem witness_DoubleWidthAddAndSubtract :
    let l : V3 := ⟨5, 2, 4, 0⟩
    let h : V3 := ⟨6, 1, 3, 0⟩
    (l.vd ≠ h.vs ∧ l.vd ≠ h.vt)
      ∧ (-2 ^ 31 ≤ (0x7FFFFFFE#32).toInt + (1#32).toInt ∧ (0x7FFFFFFE#32).toInt + (1#32).toInt < 2 ^ 31)
      ∧ (-2 ^ 31 ≤ (0x80000001#32).toInt - (1#32).toInt ∧ (0x80000001#32).toInt - (1#32).toInt < 2 ^ 31) := by decide

/-- The operands of TV-CMP-1. -/
theorem witness_DoubleWidthCompare :
    let l : V3 := ⟨5, 2, 4, 0⟩
    let h : V3 := ⟨6, 1, 3, 0⟩
    l.vd ≠ h.vs ∧ l.vd ≠ h.vt := by decide

/-- The operands of TV-CMP-2; a lane of either sign relation. -/
theorem witness_DoubleWidthClip :
    let h : V3 := ⟨5, 1, 3, 0⟩
    let l : V3 := ⟨6, 2, 4, 0⟩
    (h.vd ≠ l.vs ∧ h.vd ≠ l.vt) ∧ (0xFFFB2222#32).msb ≠ (0x00030FFF#32).msb ∧ (0x00051111#32).msb = (0x00030FFF#32).msb := by
  decide

/-- Both values of `LOGICAL_ACC_LO`. -/
theorem witness_LogicalResult : logical1.cfg.logicalAccLo = false
    ∧ ({ logical1 with cfg := { logical1.cfg with logicalAccLo := true } } : State).cfg.logicalAccLo = true := by decide

/-- The pair that VMULF clamps and a negative product (TV-MUL-1, lanes 2 and 1). -/
theorem witness_VmulfVmuluResult :
    (S multiply1 ⟨3, 1, 2, 0⟩ 2 = 0x8000#16 ∧ T multiply1 ⟨3, 1, 2, 0⟩ 2 = 0x8000#16)
      ∧ (S multiply1 ⟨3, 1, 2, 0⟩ 1).toInt * (T multiply1 ⟨3, 1, 2, 0⟩ 1).toInt < 0 := by decide

/-- Lanes that meet each of the masks' conditions, and one that meets neither; and `VCO = 0`. -/
theorem witness_VltVgeResult :
    let o : V3 := ⟨3, 1, 2, 0⟩
    (S compare1 o 2).toInt < (T compare1 o 2).toInt
      ∧ (S compare1 o 0 = T compare1 o 0 ∧ notEq compare1 0 = true ∧ carry compare1 0 = true)
      ∧ (S compare1 o 1 = T compare1 o 1 ∧ notEq compare1 1 = false) ∧ State.reset.vco = 0#16 := by decide

/-- Lanes that meet each of the masks' conditions. -/
theorem witness_VeqVneResult :
    let o : V3 := ⟨3, 1, 2, 0⟩
    (S compare1 o 1 = T compare1 o 1 ∧ notEq compare1 1 = false) ∧ S compare1 o 2 ≠ T compare1 o 2
      ∧ (S compare1 o 0 = T compare1 o 0 ∧ notEq compare1 0 = true) := by decide

/-- The high halves of TV-CMP-2. -/
def clip1 : State := start #v[0x0005#16, 0xFFFB, 0x0003, 0xFFFC, 0xFFFC, 0x0003, 0xFFFD, 0x0002] (splat 0x0003) (splat 0)

/-- A lane with differing signs, one with equal signs, a bound that is not negative, and the bound zero. -/
theorem witness_VchResult :
    let o : V3 := ⟨3, 1, 2, 0⟩
    (S clip1 o 1).msb ≠ (T clip1 o 1).msb ∧ (S clip1 o 0).msb = (T clip1 o 0).msb ∧ 0 ≤ (T clip1 o 0).toInt
      ∧ 0 ≤ (T (start (splat 1) (splat 0) (splat 0)) o 0).toInt := by decide

/-- The low halves of TV-CMP-2 with the flags VCH leaves. -/
def clip2 : State :=
  { start #v[0x1111#16, 0x2222, 0x1234, 0xF000, 0xF002, 0x0123, 0x8000, 0x9999]
      #v[0x0FFF#16, 0x0FFF, 0x0FFF, 0x0FFF, 0x0FFF, 0x0456, 0x0001, 0x0001] (splat 0) with
    vco := 0x835A, vcc := 0x255A, vce := 0x18 }

/-- A lane of each clause: carry with not-equal, with and without the extension bit; no carry with and without not-equal. -/
theorem witness_VclResult :
    (carry clip2 1 = true ∧ notEq clip2 1 = true) ∧ (carry clip2 3 = true ∧ notEq clip2 3 = false ∧ ce clip2 3 = true)
      ∧ (carry clip2 6 = true ∧ notEq clip2 6 = false ∧ ce clip2 6 = false)
      ∧ (carry clip2 0 = false ∧ notEq clip2 0 = true) ∧ (carry clip2 2 = false ∧ notEq clip2 2 = false) := by decide

/-- A lane with differing signs, one with equal signs, a bound that is not negative, and the bound zero. -/
theorem witness_VcrResult :
    let o : V3 := ⟨3, 1, 2, 0⟩
    (S clip1 o 1).msb ≠ (T clip1 o 1).msb ∧ (S clip1 o 0).msb = (T clip1 o 0).msb ∧ 0 ≤ (T clip1 o 0).toInt
      ∧ 0 ≤ (T (start (splat 1) (splat 0) (splat 0)) o 0).toInt := by decide

/-- A lane of each sign of the source; 0x8000 and another value under a negative one (TV-ABS-1). -/
theorem witness_VabsResult :
    let o : V3 := ⟨3, 1, 2, 0⟩
    ((S abs1 o 1).toInt < 0 ∧ T abs1 o 1 = 0x8000#16) ∧ ((S abs1 o 5).toInt < 0 ∧ T abs1 o 5 ≠ 0x8000#16)
      ∧ (S abs1 o 2).toInt = 0 ∧ (S abs1 o 0).toInt > 0 := by decide

/-- The three planes and the selectors next to them. -/
theorem witness_VsarResult : (⟨6, 8⟩ : VPlane).e = 8 ∧ (⟨6, 9⟩ : VPlane).e = 9 ∧ (⟨6, 10⟩ : VPlane).e = 10
    ∧ ((7 : Fin 16) ≠ 8 ∧ (7 : Fin 16) ≠ 9 ∧ (7 : Fin 16) ≠ 10)
    ∧ ((11 : Fin 16) ≠ 8 ∧ (11 : Fin 16) ≠ 9 ∧ (11 : Fin 16) ≠ 10) := by decide

/-- Zero, -32768, and inputs of the general case on either side of each. -/
theorem witness_ReciprocalCoreClassifiesAndScales : (0#32).toInt = 0 ∧ (0xFFFF8000#32).toInt = -32768
    ∧ ((1#32).toInt ≠ 0 ∧ (1#32).toInt ≠ -32768) ∧ ((0xFFFF8001#32).toInt ≠ 0 ∧ (0xFFFF8001#32).toInt ≠ -32768)
    ∧ ((0xFFFF7FFF#32).toInt ≠ 0 ∧ (0xFFFF7FFF#32).toInt ≠ -32768) := by decide

/-- VRCPH, then VRSQH. -/
theorem witness_DoublePrecisionSequence :
    (Instr.vrcph = Instr.vrcph ∨ Instr.vrcph = Instr.vrsqh) ∧ (Instr.vrsqh = Instr.vrcph ∨ Instr.vrsqh = Instr.vrsqh) :=
  ⟨.inl rfl, .inr rfl⟩

/-- Each flag number. -/
theorem witness_Cfc2Result : (⟨0, 0⟩ : MC).c = 0 ∧ (⟨0, 1⟩ : MC).c = 1 ∧ (⟨0, 2⟩ : MC).c = 2 ∧ (⟨0, 3⟩ : MC).c = 3 := by
  decide

/-- The start state of program P6 (a) meets the invariant, with whatever base address. -/
theorem top_inv : ∀ sdata : Word, ({ top1 with sdataIn := sdata } : State).Inv := fun _ =>
  inv_of_pow 12 (by decide) (by decide) rfl rfl (by decide : Memory.wf top1.mem = true)
    (by decide : ∀ c ∈ top1.mem, c.1 < 2 ^ 12)

/-- `top1` with a base address. -/
def topAt (sdata : Word) : State := { top1 with sdataIn := sdata }

/-- An accepted and a refused read. -/
theorem witness_BusTransactionsAreAllOrNothing_read : busAnswer (topAt 0) .read [0xFFF#32] = none
    ∧ busAnswer (topAt 0) .read [0xFFF#32, 0x1000] = some 0x1000 := by decide

/-- An accepted and a refused write; bytes and addresses match, and no two addresses are one byte. -/
theorem witness_BusTransactionsAreAllOrNothing_write : (topAt 0).Inv
    ∧ busAnswer (topAt 0) .write [0xFFE#32, 0xFFF] = none ∧ busAnswer (topAt 0) .write [0xFFF#32, 0x1000] = some 0x1000
    ∧ [1#8, 2#8].length = [0xFFE#32, 0xFFF].length ∧ ([0xFFE#32, 0xFFF].map (busIndex (topAt 0).cfg.bus)).Nodup
    ∧ ([0xFFF#32, 0x1000].map (busIndex (topAt 0).cfg.bus)).Nodup :=
  ⟨top_inv _, by decide⟩

/-- P6 (a)'s bus has no answer set down by itself; a transaction at the edge of its range, of either kind, on each side. -/
theorem witness_RefusedRangesReportTheLowestAddress : (topAt 0).cfg.bus.answers = []
    ∧ busAnswer (topAt 0) .read [0x1001#32, 0xFFF, 0x1000] = some 0x1000 ∧ busAnswer (topAt 0) .write [0xFFF#32] = none := by
  decide

/-- LDV at the last eight bytes the bus accepts, and one byte further. -/
theorem witness_GroupLoadsResult :
    busAnswer (topAt 0xFF8) .read (span (EA (topAt 0xFF8) ⟨0, 1, 0, 0⟩ 8) (min 8 (16 - 0))) = none
      ∧ busAnswer (topAt 0xFF9) .read (span (EA (topAt 0xFF9) ⟨0, 1, 0, 0⟩ 8) (min 8 (16 - 0))) = some 0x1000 := by decide

/-- An aligned and an unaligned pair whose sixteen bytes the bus accepts, and a refused LRV. -/
theorem witness_QuadLoadsResult :
    (EA (topAt 0xFE0) ⟨0, 1, 0, 1⟩ 16 = plus (EA (topAt 0xFE0) ⟨0, 1, 0, 0⟩ 16) 16
        ∧ busAnswer (topAt 0xFE0) .read (span 0xFE0#32 16) = none ∧ busAnswer (topAt 0xFE0) .read (span 0xFF0#32 0) = none)
      ∧ (EA (topAt 0xFEF) ⟨0, 1, 0, 1⟩ 16 = plus (EA (topAt 0xFEF) ⟨0, 1, 0, 0⟩ 16) 16
        ∧ busAnswer (topAt 0xFEF) .read (span 0xFEF#32 1) = none ∧ busAnswer (topAt 0xFEF) .read (span 0xFF0#32 15) = none)
      ∧ busAnswer (topAt 0x1004) .read (span (EA (topAt 0x1004) ⟨0, 1, 0, 0⟩ 16 - 4) 4) = some 0x1000 := by decide

/-- The eight addresses of LPV at the last window that the bus accepts whole, and at the next (P6 command 8). -/
theorem witness_PackedLoadsResult :
    busAnswer (topAt 0xFF8) .read ((List.range 8).map (plus (EA (topAt 0xFF8) ⟨0, 1, 0, 0⟩ 8))) = none
      ∧ busAnswer (topAt 0xFFC) .read ((List.range 8).map (plus (EA (topAt 0xFFC) ⟨0, 1, 0, 0⟩ 8))) = some 0x1000 := by decide

/-- SDV at the last eight bytes the bus accepts, and at P6's first command. -/
theorem witness_GroupStoresResult : (topAt 0xFF8).Inv
    ∧ busAnswer (topAt 0xFF8) .write (span (EA (topAt 0xFF8) ⟨0, 1, 0, 0⟩ 8) 8) = none
    ∧ busAnswer (topAt 0xFFC) .write (span (EA (topAt 0xFFC) ⟨0, 1, 0, 0⟩ 8) 8) = some 0x1000 :=
  ⟨top_inv _, by decide⟩

/-- An unaligned pair whose sixteen bytes the bus accepts, and a refused SRV. -/
theorem witness_QuadStoresResult : (topAt 0xFEF).Inv
    ∧ EA (topAt 0xFEF) ⟨0, 1, 0, 1⟩ 16 = plus (EA (topAt 0xFEF) ⟨0, 1, 0, 0⟩ 16) 16
    ∧ busAnswer (topAt 0xFEF) .write (span 0xFEF#32 1) = none ∧ busAnswer (topAt 0xFEF) .write (span 0xFF0#32 15) = none
    ∧ busAnswer (topAt 0x1004) .write (span (EA (topAt 0x1004) ⟨0, 1, 0, 0⟩ 16 - 4) 4) = some 0x1000 :=
  ⟨top_inv _, by decide⟩

/-- SPV at the last eight bytes the bus accepts, and four bytes further. -/
theorem witness_PackedStoresResult : (topAt 0xFF8).Inv
    ∧ busAnswer (topAt 0xFF8) .write (span (EA (topAt 0xFF8) ⟨0, 1, 0, 0⟩ 8) 8) = none
    ∧ busAnswer (topAt 0xFFC) .write (span (EA (topAt 0xFFC) ⟨0, 1, 0, 0⟩ 8) 8) = some 0x1000 :=
  ⟨top_inv _, by decide⟩

/-- SDV and LDV of one element and address, another register; and LPV with element 0. -/
theorem witness_StoreThenLoadRoundTrip :
    let p : LS := ⟨0, 1, 4, 0⟩
    let q : LS := ⟨0, 2, 4, 0⟩
    (topAt 0xFF8).Inv ∧ p.e = q.e ∧ EA (topAt 0xFF8) p 8 = EA (topAt 0xFF8) q 8
      ∧ busAnswer (topAt 0xFF8) .write (span (EA (topAt 0xFF8) p 8) 8) = none
      ∧ busAnswer (topAt 0xFF8) .read (span (EA (topAt 0xFF8) p 8) (min 8 (16 - p.e.val))) = none
      ∧ (⟨0, 2, 0, 0⟩ : LS).e = 0 :=
  ⟨top_inv _, by decide⟩

/-- The four instructions the two families of the second part speak of are real choices. -/
theorem witness_StoreThenLoadRoundTrip_kinds :
    ((Instr.sdv = Instr.sbv ∧ Instr.ldv = Instr.lbv ∧ 8 = 1 ∧ 8 = 1) ∨ (Instr.sdv = Instr.ssv ∧ Instr.ldv = Instr.lsv ∧ 8 = 2 ∧ 8 = 2)
        ∨ (Instr.sdv = Instr.slv ∧ Instr.ldv = Instr.llv ∧ 8 = 4 ∧ 8 = 4)
        ∨ (Instr.sdv = Instr.sdv ∧ Instr.ldv = Instr.ldv ∧ 8 = 8 ∧ 8 = 8))
      ∧ ((Instr.luv = Instr.lpv ∧ Instr.suv = Instr.spv) ∨ (Instr.luv = Instr.luv ∧ Instr.suv = Instr.suv)) :=
  ⟨.inr (.inr (.inr ⟨rfl, rfl, rfl, rfl⟩)), .inr ⟨rfl, rfl⟩⟩

end Sys2Proof.Tests
end

/-!
Lane independence (00_scope.md R16; 45_compare_select.md R190). Two states are compared on one lane only: one rule per state
operation says that it keeps their agreement when its two arguments agree on that lane, the shared operations follow from
these rules, and a lane-wise instruction is one of the shared operations on arguments computed lane by lane.
-/

namespace Sys2Proof.Machine

open Sys2Proof.Claims

/-- Two states have the same accumulator and the same flag bits on lane `k`. -/
structure LaneAgrees (k : LaneIx) (s u : State) : Prop where
  acc : s.acc[k] = u.acc[k]
  carry : s.carry k = u.carry k
  ne : s.ne k = u.ne k
  le : s.le k = u.le k
  ge : s.ge k = u.ge k
  ce : s.ce k = u.ce k

/-- They also have the same configuration and the same two source lanes: all that lane `k` of an instruction may read. -/
structure SourcesAgree (o : V3) (k : LaneIx) (s u : State) : Prop extends LaneAgrees k s u where
  cfg : s.cfg = u.cfg
  srcS : s.srcS o.vs k = u.srcS o.vs k
  srcT : s.srcT o.vt o.e k = u.srcT o.vt o.e k

/-- They also have the same lane `k` of register `d`: all that lane `k` of an instruction may write. -/
structure ResultAgrees (d : Fin 32) (k : LaneIx) (s u : State) : Prop extends LaneAgrees k s u where
  lane : s.vr[d][k] = u.vr[d][k]

/-! ## One rule per state operation -/

section Rules
variable {d : Fin 32} {k : LaneIx} {s u : State}

theorem LaneAgrees.setAcc (h : LaneAgrees k s u) {f g : LaneIx → AccLane} (hfg : f k = g k) :
    LaneAgrees k (s.setAcc f) (u.setAcc g) where
  __ := h
  acc := by rw [State.setAcc_lane, State.setAcc_lane, hfg]

theorem LaneAgrees.setAccLo (h : LaneAgrees k s u) {f g : LaneIx → Lane} (hfg : f k = g k) :
    LaneAgrees k (s.setAccLo f) (u.setAccLo g) :=
  h.setAcc (by rw [h.acc, hfg])

theorem LaneAgrees.setLanes (h : LaneAgrees k s u) {f g : LaneIx → Lane} (hfg : f k = g k) :
    ResultAgrees d k (s.setLanes d f) (u.setLanes d g) where
  __ := h
  lane := by rw [State.setLanes_lane, State.setLanes_lane, hfg]

theorem ResultAgrees.setVco (h : ResultAgrees d k s u) {v w : BitVec 16} (hlo : v.getLsbD k.val = w.getLsbD k.val)
    (hhi : v.getLsbD (8 + k.val) = w.getLsbD (8 + k.val)) : ResultAgrees d k (s.setVco v) (u.setVco w) where
  __ := h
  carry := hlo
  ne := hhi

theorem ResultAgrees.setVcc (h : ResultAgrees d k s u) {v w : BitVec 16} (hlo : v.getLsbD k.val = w.getLsbD k.val)
    (hhi : v.getLsbD (8 + k.val) = w.getLsbD (8 + k.val)) : ResultAgrees d k (s.setVcc v) (u.setVcc w) where
  __ := h
  le := hlo
  ge := hhi

theorem ResultAgrees.setVce (h : ResultAgrees d k s u) {v w : BitVec 8} (hbit : v.getLsbD k.val = w.getLsbD k.val) :
    ResultAgrees d k (s.setVce v) (u.setVce w) where
  __ := h
  ce := hbit

theorem packFlags_low_congr {lo lo' hi hi' : LaneIx → Bool} (h : lo k = lo' k) :
    (packFlags lo hi).getLsbD k.val = (packFlags lo' hi').getLsbD k.val := by
  rw [packFlags_low, packFlags_low, h]

theorem packFlags_high_congr {lo lo' hi hi' : LaneIx → Bool} (h : hi k = hi' k) :
    (packFlags lo hi).getLsbD (8 + k.val) = (packFlags lo' hi').getLsbD (8 + k.val) := by
  rw [packFlags_high, packFlags_high, h]

/-- The result to the accumulator's low plane and to the destination register. -/
theorem LaneAgrees.accLo_setLanes (h : LaneAgrees k s u) {f f' g g' : LaneIx → Lane} (hf : f k = f' k) (hg : g k = g' k) :
    ResultAgrees d k ((s.setAccLo f).setLanes d g) ((u.setAccLo f').setLanes d g') :=
  (h.setAccLo hf).setLanes hg

end Rules

/-! ## The shared operations -/

namespace SourcesAgree

variable {o : V3} {k : LaneIx} {s u : State} (h : SourcesAgree o k s u)
include h

theorem prodSS : prodSS s o k = prodSS u o k := by simp only [Machine.prodSS, h.srcS, h.srcT]

theorem prodSU : prodSU s o k = prodSU u o k := by simp only [Machine.prodSU, h.srcS, h.srcT]

theorem prodUS : prodUS s o k = prodUS u o k := by simp only [Machine.prodUS, h.srcS, h.srcT]

theorem prodUU : prodUU s o k = prodUU u o k := by simp only [Machine.prodUU, h.srcS, h.srcT]

theorem mulSet {a b : LaneIx → Int} (hab : a k = b k) (clamp : AccLane → Lane) :
    ResultAgrees o.vd k (mulSet o a clamp s) (mulSet o b clamp u) :=
  (h.setAcc (by rw [hab])).setLanes (by rw [hab])

theorem mulAdd {a b : LaneIx → Int} (hab : a k = b k) (clamp : AccLane → Lane) :
    ResultAgrees o.vd k (mulAdd o a clamp s) (mulAdd o b clamp u) :=
  h.mulSet (by rw [h.acc, hab]) clamp

theorem addSaturating {x y : LaneIx → Int} (hxy : x k = y k) :
    ResultAgrees o.vd k (addSaturating o.vd x s) (addSaturating o.vd y u) :=
  (h.accLo_setLanes (by rw [hxy]) (by rw [hxy])).setVco rfl rfl

theorem addWrapping {x y : LaneIx → Int} {c c' n n' : LaneIx → Bool} (hxy : x k = y k) (hc : c k = c' k)
    (hn : n k = n' k) : ResultAgrees o.vd k (addWrapping o.vd x c n s) (addWrapping o.vd y c' n' u) :=
  (h.accLo_setLanes (by rw [hxy]) (by rw [hxy])).setVco (packFlags_low_congr hc) (packFlags_high_congr hn)

theorem selectCompare {m m' : LaneIx → Bool} (hm : m k = m' k) :
    ResultAgrees o.vd k (selectCompare o m s) (selectCompare o m' u) :=
  have hr : (if m k then s.srcS o.vs k else s.srcT o.vt o.e k) = if m' k then u.srcS o.vs k else u.srcT o.vt o.e k := by
    rw [hm, h.srcS, h.srcT]
  ((h.accLo_setLanes hr hr).setVcc (packFlags_low_congr hm) (packFlags_high_congr rfl)).setVco rfl rfl

theorem clip {f g : LaneIx → ClipLane} (hfg : f k = g k) : ResultAgrees o.vd k (clip o f s) (clip o g u) :=
  have hr := congrArg ClipLane.r hfg
  (((h.accLo_setLanes hr hr).setVcc
    (packFlags_low_congr (congrArg ClipLane.le hfg)) (packFlags_high_congr (congrArg ClipLane.ge hfg))).setVco
    (packFlags_low_congr (congrArg ClipLane.cy hfg)) (packFlags_high_congr (congrArg ClipLane.ne hfg))).setVce
    (by rw [packHalf_bit, packHalf_bit, hfg])

/-- The configuration, equal on both sides, decides whether the accumulator is written (R160). -/
theorem logical (f : Lane → Lane → Lane) : ResultAgrees o.vd k (logical o f s) (logical o f u) := by
  have hr : f (s.srcS o.vs k) (s.srcT o.vt o.e k) = f (u.srcS o.vs k) (u.srcT o.vt o.e k) := by rw [h.srcS, h.srcT]
  unfold Machine.logical
  rw [h.cfg]
  split
  · exact h.accLo_setLanes hr hr
  · exact h.setLanes hr

end SourcesAgree

/-! ## The instructions -/

/-- Every lane-wise instruction completes, and what it writes on a lane depends on no other lane. -/
theorem exec_laneWise_agrees {i : Instr} {o : V3} (hi : laneWise i = some o) {k : LaneIx} {s u : State}
    (h : SourcesAgree o k s u) : ∃ t v, exec i s = .next t ∧ exec i u = .next v ∧ ResultAgrees o.vd k t v := by
  cases i <;> cases hi <;> refine ⟨_, _, rfl, rfl, ?_⟩
  case vmulf | vmulu | vmudh => exact h.mulSet (by simp only [h.prodSS]) _
  case vmudl => exact h.mulSet (by simp only [h.prodUU]) _
  case vmudm => exact h.mulSet h.prodSU _
  case vmudn => exact h.mulSet h.prodUS _
  case vmacf | vmacu | vmadh => exact h.mulAdd (by simp only [h.prodSS]) _
  case vmadl => exact h.mulAdd (by simp only [h.prodUU]) _
  case vmadm => exact h.mulAdd h.prodSU _
  case vmadn => exact h.mulAdd h.prodUS _
  case vadd | vsub => exact h.addSaturating (by simp only [h.srcS, h.srcT, h.carry])
  case vaddc | vsubc =>
    exact h.addWrapping (by simp only [h.srcS, h.srcT]) (by simp only [h.srcS, h.srcT]) (by simp only [h.srcS, h.srcT])
  case vlt | veq | vne | vge => exact h.selectCompare (by simp only [h.srcS, h.srcT, h.ne, h.carry])
  case vcl => exact h.clip (by simp only [h.srcS, h.srcT, h.le, h.ge, h.carry, h.ne, h.ce])
  case vch | vcr => exact h.clip (by simp only [h.srcS, h.srcT])
  case vmrg => exact h.accLo_setLanes (by simp only [h.srcS, h.srcT, h.le]) (by simp only [h.srcS, h.srcT, h.le])
  case vabs => exact h.accLo_setLanes (by simp only [h.srcS, h.srcT]) (by simp only [h.srcS, h.srcT, h.cfg])
  case vand | vnand | vor | vnor | vxor | vnxor => exact h.logical _

/-- Settles O14: every lane-wise instruction is a shared operation that keeps the agreement of two states on a lane. -/
theorem lanesAreIndependent : Obligations.LanesAreIndependent := by
  intro i o hi s u k hcfg hS hT hacc hcarry hne hle hge hce
  have h : SourcesAgree o k s u := ⟨⟨hacc, hcarry, hne, hle, hge, hce⟩, hcfg, hS, hT⟩
  obtain ⟨t, v, ht, hv, hr⟩ := exec_laneWise_agrees hi h
  exact ⟨t, v, ht, hv, hr.lane, hr.acc, hr.carry, hr.ne, hr.le, hr.ge, hr.ce⟩

end Sys2Proof.Machine

/-!
Flag forms (10_state.md R30, R31). The packed half and the lane-mask form of a mask say the same of every lane.
-/

namespace Sys2Proof.Machine

/-- Lane `i` of the lane-mask form is all ones or all zeros, as bit `i` says (R30). -/
@[simp] theorem laneMask_lane (h : BitVec 8) (i : LaneIx) :
    (laneMask h)[i] = if h.getLsbD i.val then 0xFFFF#16 else 0x0000#16 := by simp [laneMask]

/-- Bit `i` of the packed form is set exactly when lane `i` is not zero (R31). -/
@[simp] theorem packMask_bit (m : VReg) (i : LaneIx) : (packMask m).getLsbD i.val = decide (m[i] ≠ 0x0000#16) :=
  packHalf_bit _ i

theorem packMask_laneMask (h : BitVec 8) : packMask (laneMask h) = h := by
  refine BitVec.eq_of_getLsbD_eq fun i hi => ?_
  have hbit := packMask_bit (laneMask h) ⟨i, hi⟩
  rw [laneMask_lane] at hbit
  rw [hbit]
  cases h.getLsbD i <;> rfl

theorem laneMask_packMask {m : VReg} (hm : ∀ i : LaneIx, m[i] = 0x0000#16 ∨ m[i] = 0xFFFF#16) :
    laneMask (packMask m) = m := by
  refine Vector.ext fun i hi => ?_
  have hlane := laneMask_lane (packMask m) ⟨i, hi⟩
  rw [packMask_bit] at hlane
  refine hlane.trans ?_
  rcases hm ⟨i, hi⟩ with h | h <;> rw [h] <;> exact h.symm

/-- Settles O22: the two forms agree lane by lane, so each is recovered from the other. -/
theorem flagFormsRoundTrip : Obligations.FlagFormsRoundTrip :=
  ⟨laneMask_lane, packMask_bit, packMask_laneMask, fun _ => laneMask_packMask⟩

end Sys2Proof.Machine

/-!
What an instruction changes outside the block (10_state.md R34; 20_memory.md R62; 30_encoding.md R71; 41_load_store.md R140).
The shared operations of the instructions write the block alone, a store memory alone, MFC2 and CFC2 the scalar result alone.
-/

namespace Sys2Proof.Machine

open Sys2Proof.Claims

/-- Memory, the command port and the configuration keep their values: an operation changed at most the block itself. -/
structure OutsideKept (s t : State) : Prop where
  mem : t.mem = s.mem
  port : portKept s t

/-! ## The shared operations write the block alone -/

namespace OutsideKept

/-- An update of the block's own fields, which most of the shared operations are by definition. -/
theorem block (s : State) {vr : Vector VReg 32} {acc : AccReg} {vco vcc : BitVec 16} {vce : BitVec 8}
    {divIn divOut : BitVec 16} {dp : Bool} :
    OutsideKept s { s with vr, acc, vco, vcc, vce, divIn, divOut, dp } := ⟨rfl, ⟨rfl, rfl, rfl⟩, rfl⟩

variable {s t : State}

theorem logical (o : V3) (f : Lane → Lane → Lane) : OutsideKept s (logical o f s) := logical_eq s o f ▸ block s

theorem writeFlag (v : Word) (r : FlagReg) : OutsideKept s (writeFlag s v r) := writeFlag_eq s v r ▸ block s

/-- A completed load only read memory. -/
theorem of_loadReg {vt : Fin 32} {addrs : List Word} {f : List Byte → VReg} (h : loadReg vt addrs f s = .next t) :
    OutsideKept s t := (loadReg_next h).2 ▸ block s

end OutsideKept

/-! ## The instructions -/

/-- Everything a completed instruction can do outside the block: a store writes memory, MFC2 and CFC2 return a scalar, and
every other instruction leaves all of it alone. -/
theorem exec_next_cases {i : Instr} {s t : State} (h : exec i s = .next t) :
    (isStore i = true ∧ ∃ m, t = { s with mem := m }) ∨
    (isStore i = false ∧ ((∃ o, i = .mfc2 o) ∨ ∃ o, i = .cfc2 o) ∧ ∃ v, t = s.setScalarOut v) ∨
    (isStore i = false ∧ OutsideKept s t) := by
  cases i
  case sbv | ssv | slv | sdv | sqv | srv | spv | suv => exact .inl ⟨rfl, _, (storeReg_next h).2⟩
  case mfc2 o => cases h; exact .inr (.inl ⟨rfl, .inl ⟨o, rfl⟩, _, rfl⟩)
  case cfc2 o => cases h; exact .inr (.inl ⟨rfl, .inr ⟨o, rfl⟩, _, rfl⟩)
  all_goals refine .inr (.inr ⟨rfl, ?_⟩)
  case lbv | lsv | llv | ldv | lqv | lrv | lpv | luv => exact .of_loadReg h
  all_goals cases h
  case vand | vnand | vor | vnor | vxor | vnxor => exact .logical ..
  case ctc2 => exact .writeFlag ..
  all_goals exact .block s

/-- Settles O20: the three cases of what a completed instruction does outside the block. -/
theorem onlyStoresChangeMemoryOnlyMovesReturnAScalar :
    Obligations.OnlyStoresChangeMemoryOnlyMovesReturnAScalar := by
  intro i s t h
  obtain ⟨hstore, m, rfl⟩ | ⟨hstore, hmove, v, rfl⟩ | ⟨hstore, hmem, hin, hout⟩ := exec_next_cases h
  · exact ⟨by simp [hstore], fun _ => ⟨rfl, fun _ => rfl, ⟨rfl, rfl, rfl⟩, rfl, rfl, rfl⟩, fun _ _ => rfl, rfl, rfl, rfl⟩
  · refine ⟨fun _ => rfl, by simp [hstore], fun hmfc2 hcfc2 => ?_, rfl, rfl, rfl⟩
    obtain ⟨o, rfl⟩ | ⟨o, rfl⟩ := hmove
    · exact absurd rfl (hmfc2 o)
    · exact absurd rfl (hcfc2 o)
  · exact ⟨fun _ => hmem, by simp [hstore], fun _ _ => hout, hin⟩

end Sys2Proof.Machine

/-!
The opcode table and the decoder (30_encoding.md R76 to R79, R86). A word can be of one row only, `rowOf w`: its `op` and bit
25 fix the format, its `funct`, `sub` or `sel` the row. It decodes when the table has that row; otherwise the format says why
it is refused.
-/

namespace Sys2Proof

open Sys2Proof.Claims

/-! ## The fields that a row's mask keeps -/

/-- A mask that is all ones on a field keeps the field. -/
theorem field_and_of_ones {m : Word} {lo n : Nat} (hm : field m lo n = 2 ^ n - 1) (w : Word) :
    field (w &&& m) lo n = field w lo n := by
  refine Nat.eq_of_testBit_eq fun j => ?_
  have hbit : j < n → m.getLsbD (lo + j) = true := fun hj => by
    rw [bit_of_field hm j hj, Nat.testBit_two_pow_sub_one, decide_eq_true hj]
  by_cases hj : j < n <;> simp [testBit_field, hj, hbit]

/-- A field of a row's word, where the row's mask keeps the field. -/
theorem field_of_row {w : Word} {r : OpcodeRow} (h : w &&& r.mask = r.pattern) {lo n : Nat}
    (hm : field r.mask lo n = 2 ^ n - 1) : field w lo n = field r.pattern lo n := by
  rw [← h, field_and_of_ones hm]

theorem field_lt (w : Word) (lo n : Nat) : field w lo n < 2 ^ n := Nat.mod_lt _ (Nat.two_pow_pos n)

theorem toNat_div_op (w : Word) : w.toNat / 2 ^ 26 = field w 26 6 := by unfold field; omega

theorem formatV_iff {w : Word} : field w 26 6 = 0x12 ∧ field w 25 1 = 1 ↔ w.toNat / 2 ^ 25 = 0x25 := by
  unfold field; omega

theorem formatM_iff {w : Word} : field w 26 6 = 0x12 ∧ field w 25 1 ≠ 1 ↔ w.toNat / 2 ^ 25 = 0x24 := by
  unfold field; omega

/-- Bit 25 is the highest bit of `sel` (R74). -/
theorem sel_lt {w : Word} (h : field w 25 1 ≠ 1) : field w 21 5 < 16 := by unfold field at *; omega

/-- In format M bit 25 is zero, so the low four bits of `sel` are all of it. -/
theorem sel_of_formatM {w : Word} (h : w.toNat / 2 ^ 25 = 0x24) : field w 21 5 = w.toNat / 2 ^ 21 % 16 := by
  unfold field; omega

/-! ## The row of a word -/

/-- The one row that a word can be of, in the table or not. -/
def rowOf (w : Word) : OpcodeRow :=
  if field w 26 6 = 0x12 then
    if field w 25 1 = 1 then rowV (field w 0 6) else rowM (0x48000000 + field w 21 5 * 2 ^ 21)
  else rowLS (field w 26 6 * 2 ^ 26) (field w 11 5)

/-- A word is of its row. -/
theorem and_mask_rowOf (w : Word) : w &&& (rowOf w).mask = (rowOf w).pattern := by
  unfold rowOf
  split_ifs with hop h1
  · exact and_maskV hop h1 rfl
  · exact and_maskM hop rfl (sel_lt h1)
  · exact and_maskLS rfl rfl

/-- Every row of the table is the row of its own pattern. -/
theorem rowOf_pattern : ∀ r ∈ opcodeRows, rowOf r.pattern = r := by decide

/-! The mask of every row keeps the fields that choose the row (R76 to R78). -/

theorem mask_keeps_op : ∀ r ∈ opcodeRows, field r.mask 26 6 = 2 ^ 6 - 1 := by decide

theorem mask_keeps_co : ∀ r ∈ opcodeRows, field r.pattern 26 6 = 0x12 → field r.mask 25 1 = 2 ^ 1 - 1 := by decide

theorem mask_keeps_funct : ∀ r ∈ opcodeRows, field r.pattern 26 6 = 0x12 → field r.pattern 25 1 = 1 →
    field r.mask 0 6 = 2 ^ 6 - 1 := by decide

theorem mask_keeps_sel : ∀ r ∈ opcodeRows, field r.pattern 26 6 = 0x12 → field r.pattern 25 1 ≠ 1 →
    field r.mask 21 5 = 2 ^ 5 - 1 := by decide

theorem mask_keeps_sub : ∀ r ∈ opcodeRows, field r.pattern 26 6 ≠ 0x12 → field r.mask 11 5 = 2 ^ 5 - 1 := by decide

/-- A word is of no row of the table but its own (R79): it has the row's pattern in the fields that choose the row. -/
theorem rowOf_eq_of_mem {w : Word} {r : OpcodeRow} (hr : r ∈ opcodeRows) (h : w &&& r.mask = r.pattern) :
    rowOf w = r := by
  have hop := field_of_row h (mask_keeps_op r hr)
  rw [← rowOf_pattern r hr]
  by_cases h12 : field r.pattern 26 6 = 0x12
  · have hco := field_of_row h (mask_keeps_co r hr h12)
    by_cases h1 : field r.pattern 25 1 = 1
    · simp [rowOf, hop, h12, hco, h1, field_of_row h (mask_keeps_funct r hr h12 h1)]
    · simp [rowOf, hop, h12, hco, h1, field_of_row h (mask_keeps_sel r hr h12 h1)]
  · simp [rowOf, hop, h12, field_of_row h (mask_keeps_sub r hr h12)]

/-- The table has a row of the word exactly when it has the word's own row. -/
theorem exists_row_iff {w : Word} : (∃ r ∈ opcodeRows, w &&& r.mask = r.pattern) ↔ rowOf w ∈ opcodeRows :=
  ⟨fun ⟨_, hr, h⟩ => (rowOf_eq_of_mem hr h).symm ▸ hr, fun h => ⟨_, h, and_mask_rowOf w⟩⟩

/-! ## The codes that the table has -/

theorem rowV_mem : ∀ f < 64, rowV f ∈ opcodeRows ↔ f ∉ refusedFunct := by decide

theorem rowM_mem : ∀ s < 16, rowM (0x48000000 + s * 2 ^ 21) ∈ opcodeRows ↔ s ∈ [0, 2, 4, 6] := by decide

theorem pattern_of_maskLS : ∀ r ∈ opcodeRows, r.mask = 0xFC00F800#32 →
    (field r.pattern 26 6 = 0x32 ∨ field r.pattern 26 6 = 0x3A) ∧ field r.pattern 11 5 < 8 := by decide

theorem rowLS_mem {op s : Nat} (hop : op < 64) (hs : s < 32) :
    rowLS (op * 2 ^ 26) s ∈ opcodeRows ↔ (op = 0x32 ∨ op = 0x3A) ∧ s < 8 := by
  constructor
  · intro h
    have hp := pattern_of_maskLS _ h rfl
    rw [rowLS, field_ofNat (by omega), field_ofNat (by omega)] at hp
    omega
  · rintro ⟨rfl | rfl, hs⟩ <;> revert s <;> decide

/-! ## What each format refuses -/

theorem decodeV_error_iff {w : Word} {why : Undecodable} :
    decodeV w = .error why ↔ field w 0 6 ∈ refusedFunct ∧ why = .badFunct := by
  have hlt := field_lt w 0 6
  unfold decodeV
  generalize field w 0 6 = f at hlt
  interval_cases f <;> simp [refusedFunct, eq_comm]

theorem decodeLoad_error_iff {w : Word} {why : Undecodable} :
    decodeLoad w = .error why ↔ 8 ≤ field w 11 5 ∧ why = .badSub := by
  have hlt := field_lt w 11 5
  unfold decodeLoad
  generalize field w 11 5 = s at hlt
  interval_cases s <;> simp [eq_comm]

theorem decodeStore_error_iff {w : Word} {why : Undecodable} :
    decodeStore w = .error why ↔ 8 ≤ field w 11 5 ∧ why = .badSub := by
  have hlt := field_lt w 11 5
  unfold decodeStore
  generalize field w 11 5 = s at hlt
  interval_cases s <;> simp [eq_comm]

theorem decodeM_error_iff {w : Word} {why : Undecodable} :
    decodeM w = .error why ↔ field w 21 5 ∉ [0, 2, 4, 6] ∧ why = .badSel := by
  have hlt := field_lt w 21 5
  unfold decodeM
  generalize field w 21 5 = s at hlt
  interval_cases s <;> simp [eq_comm]

/-! ## What the decoder refuses -/

/-- The words that do not decode, by the reason (R86). -/
theorem decode_error_iff {w : Word} {why : Undecodable} :
    decode w = .error why ↔
      (field w 26 6 = 0x12 ∧ field w 25 1 = 1) ∧ field w 0 6 ∈ refusedFunct ∧ why = .badFunct
      ∨ (field w 26 6 = 0x12 ∧ field w 25 1 ≠ 1) ∧ field w 21 5 ∉ [0, 2, 4, 6] ∧ why = .badSel
      ∨ (field w 26 6 = 0x32 ∨ field w 26 6 = 0x3A) ∧ 8 ≤ field w 11 5 ∧ why = .badSub
      ∨ (field w 26 6 ≠ 0x12 ∧ field w 26 6 ≠ 0x32 ∧ field w 26 6 ≠ 0x3A) ∧ why = .badOp := by
  unfold decode
  split
  case h_1 hop =>
    split_ifs with hco
    · rw [decodeV_error_iff]; simp [hop, hco]
    · rw [decodeM_error_iff]; simp [hop, hco]
  case h_2 hop => rw [decodeLoad_error_iff]; simp [hop]
  case h_3 hop => rw [decodeStore_error_iff]; simp [hop]
  case h_4 h12 h32 h3A =>
    rw [imp_false] at h12 h32 h3A
    simp [h12, h32, h3A, eq_comm (a := Undecodable.badOp)]

/-- The words refused are those whose row the table does not have. -/
theorem exists_decode_error_iff {w : Word} : (∃ why, decode w = .error why) ↔ rowOf w ∉ opcodeRows := by
  simp only [decode_error_iff]
  unfold rowOf
  split_ifs with hop h1
  · rw [rowV_mem _ (field_lt w 0 6)]; simp [hop, h1]
  · rw [rowM_mem _ (sel_lt h1)]; simp [hop, h1]
  · rw [rowLS_mem (field_lt w 26 6) (field_lt w 11 5)]
    simp only [hop, false_and, false_or, or_and_right, exists_or, existsAndEq, and_true]
    omega

theorem exists_decode_ok_iff {w : Word} : (∃ i, decode w = .ok i) ↔ rowOf w ∈ opcodeRows := by
  rw [← not_iff_not, ← exists_decode_error_iff]
  cases decode w <;> simp

/-! ## The obligations of the encoding -/

/-- Settles O10: a word's own row is the only one it can be of, and the decoder refuses exactly the rows the table lacks. -/
theorem everyWordIsOneRowOrRefused : Obligations.EveryWordIsOneRowOrRefused := by
  refine ⟨fun w => exists_decode_ok_iff.trans exists_row_iff.symm, fun w q r hq hr hwq hwr => ?_, fun w => ?_⟩
  · exact (rowOf_eq_of_mem hq hwq).symm.trans (rowOf_eq_of_mem hr hwr)
  · have hfunct : field w 0 6 = w.toNat % 64 := by simp [field]
    have hsub : field w 11 5 = w.toNat / 2 ^ 11 % 32 := rfl
    simp only [decode_error_iff, formatV_iff, formatM_iff, toNat_div_op, ← hfunct, ← hsub]
    refine ⟨by simp, by simp, by simp, ?_⟩
    simp only [reduceCtorEq, and_false, and_true, false_or, or_false]
    exact and_congr_right fun h => by rw [sel_of_formatM h]

/-- Settles O1: the decoder run on the eight words of R92. -/
theorem workedEncodingsDecode : Obligations.WorkedEncodingsDecode := by
  unfold Obligations.WorkedEncodingsDecode
  decide

end Sys2Proof

/-!
The element selection table and the clamps (40_common_datapath.md R101, R105 to R109). Each accumulator clamp is a function of
`accUpper` and one plane, so what it gives on a reloaded accumulator follows from these two readings of the reload.
-/

namespace Sys2Proof.Machine

open Sys2Proof.Claims

/-! ## Clamping an integer -/

/-- The clamp gives the nearest integer of the signed range (R105). -/
theorem toInt_clampS16 (x : Int) : (clampS16 x).toInt = max (-32768) (min 32767 x) := by
  unfold clampS16
  split_ifs with hlow hhigh
  · rw [min_eq_right (by omega), max_eq_left (by omega)]; rfl
  · rw [min_eq_left (by omega), max_eq_right (by omega)]; rfl
  · rw [BitVec.toInt_ofInt_eq_self (by decide) (by omega) (by omega)]; omega

/-- The clamp keeps every 16-bit signed number. -/
@[simp] theorem clampS16_toInt (x : Lane) : clampS16 x.toInt = x := by
  have hlow : -2 ^ 15 ≤ x.toInt := x.le_toInt
  have hhigh : x.toInt < 2 ^ 15 := x.toInt_lt
  rw [clampS16, if_neg (by omega), if_neg (by omega), BitVec.ofInt_toInt]

/-! ## The upper bits and the middle plane of an accumulator -/

/-- The upper 32 bits of a reload are what was put there. -/
@[simp] theorem accUpper_append (u : BitVec 32) (x : Lane) : accUpper (u ++ x) = u.toInt :=
  congrArg BitVec.toInt BitVec.extractLsb'_append_eq_left

/-- The middle plane is the low half of the upper bits. -/
theorem accMd_eq_setWidth (a : AccLane) : accMd a = (a.extractLsb' 16 32).setWidth 16 :=
  (BitVec.setWidth_extractLsb'_of_le (by decide)).symm

theorem toNat_accMd (a : AccLane) : ((accMd a).toNat : Int) = accUpper a % 2 ^ 16 := by
  rw [accMd_eq_setWidth, BitVec.toNat_setWidth, accUpper, BitVec.toInt_eq_toNat_cond]
  split <;> omega

/-- Bits 47:31 all equal make the upper bits the sign extension of the middle plane (R106). -/
theorem accUpper_of_sign_bits {a : AccLane} (h : ∀ k : Fin 17, a.getLsbD (31 + k.val) = a.getLsbD 47) :
    accUpper a = (accMd a).toInt := by
  have hext : a.extractLsb' 16 32 = (accMd a).signExtend 32 := by
    refine BitVec.eq_of_getLsbD_eq fun i hi => ?_
    have hmsb : (accMd a).msb = a.getLsbD 47 := by rw [← h 0]; simp [accMd, BitVec.msb_eq_getLsbD_last]
    rw [BitVec.getLsbD_extractLsb', BitVec.getLsbD_signExtend, hmsb]
    by_cases hlane : i < 16
    · simp [accMd, hi, hlane]
    · have hk := h ⟨i - 15, by omega⟩
      rw [show 31 + (i - 15) = 16 + i by omega] at hk
      simp [hi, hlane, hk]
  rw [accUpper, hext, BitVec.toInt_signExtend_of_le (by decide)]

/-! ## Clamping an accumulator -/

/-- An accumulator whose upper bits are a 16-bit signed number clamps to that number. -/
theorem clampSignedMid_eq {a : AccLane} {x : Lane} (h : accUpper a = x.toInt) : clampSignedMid a = x := by
  rw [clampSignedMid, h, clampS16_toInt]

/-- Every lane sign-extended into the upper bits is kept (R109). -/
theorem clampSignedMid_reload (x y : Lane) : clampSignedMid (x.signExtend 32 ++ y) = x :=
  clampSignedMid_eq (by rw [accUpper_append, BitVec.toInt_signExtend_of_le (by decide)])

/-- The unsigned clamp gives its maximum or a value whose bit 15 is clear (R107). -/
theorem clampUnsignedMid_range (a : AccLane) :
    clampUnsignedMid a = 0xFFFF#16 ∨ (clampUnsignedMid a).toNat ≤ 0x7FFF := by
  unfold clampUnsignedMid
  split_ifs with hneg hmax
  · exact .inr (by decide)
  · exact .inl rfl
  · have hmd := toNat_accMd a
    exact .inr (by omega)

/-- A value in that range, zero-extended into the upper bits, is kept (R109). -/
theorem clampUnsignedMid_reload {x : Lane} (hx : x = 0xFFFF#16 ∨ x.toNat ≤ 0x7FFF) (y : Lane) :
    clampUnsignedMid (x.zeroExtend 32 ++ y) = x := by
  have hnat : (x.zeroExtend 32).toNat = x.toNat := BitVec.toNat_setWidth_of_le (by decide)
  have hupper : accUpper (x.zeroExtend 32 ++ y) = x.toNat := by
    rw [accUpper_append, BitVec.toInt_eq_toNat_of_lt (by omega), hnat]
  have hmd : accMd (x.zeroExtend 32 ++ y) = x := by
    rw [accMd_eq_setWidth, BitVec.extractLsb'_append_eq_left]
    simp
  rw [clampUnsignedMid, hupper, hmd, if_neg (by omega)]
  obtain rfl | hx := hx
  · rfl
  · rw [if_neg (by omega)]

/-- A low plane below upper bits that are zero is kept (R109). -/
theorem clampUnsignedLow_reload (x : Lane) : clampUnsignedLow (0#32 ++ x) = x := by
  have hupper : accUpper (0#32 ++ x) = 0 := accUpper_append 0#32 x
  rw [clampUnsignedLow, hupper, accLo_append]
  rfl

/-! ## The obligations of the datapath -/

/-- Settles O21: each clamp keeps every value it can give, so a reloaded result clamps to itself. -/
theorem clampsSaturateAndAreIdempotent : Obligations.ClampsSaturateAndAreIdempotent := by
  refine ⟨fun x => ⟨toInt_clampS16 x, clampS16_toInt _⟩, fun a => ⟨?_, rfl, rfl, ?_, ?_, ?_, ?_⟩⟩
  · exact toInt_clampS16 (accUpper a)
  · exact fun h => clampSignedMid_eq (accUpper_of_sign_bits h)
  · exact clampSignedMid_reload _ _
  · exact clampUnsignedMid_reload (clampUnsignedMid_range a) _
  · exact clampUnsignedLow_reload _

/-- Settles O5: the 128 entries of the printed table, each compared with the closed form. -/
theorem selectionTableClosedForm : Obligations.SelectionTableClosedForm := by
  unfold Obligations.SelectionTableClosedForm
  decide

end Sys2Proof.Machine

/-!
Load and store words (30_encoding.md R73, R75, R77). The word joined from its fields is the encoder's word, so its `op` and
`sub` choose the instruction and its operands are those encoded.
-/

namespace Sys2Proof

open Sys2Proof.Claims

/-- The signed value of a seven-bit field, taken back to seven bits, is the field (R75). -/
theorem toInt_emod_128 (x : BitVec 7) : (x.toInt % 128).toNat = x.toNat := by
  have hlt := x.isLt
  rw [BitVec.toInt_eq_toNat_cond]
  split <;> omega

/-- The signed value of a seven-bit field fits the offset operand. -/
theorem LS.wf_toInt (base vt : Fin 32) (e : Fin 16) (x : BitVec 7) : LS.wf ⟨base, vt, e, x.toInt⟩ = true := by
  have hlow : -2 ^ 6 ≤ x.toInt := x.le_toInt
  have hhigh : x.toInt < 2 ^ 6 := x.toInt_lt
  exact decide_eq_true ⟨by simpa using hlow, by simpa using Int.le_of_lt_add_one hhigh⟩

theorem wordLS_eq_encodeLS {w sub : Nat} (hw : w = 0xC8000000 ∨ w = 0xE8000000) (hs : sub < 32) (base vt : Fin 32)
    (e : Fin 16) (x : BitVec 7) : wordLS w sub base vt e x = encodeLS w sub ⟨base, vt, e, x.toInt⟩ := by
  have hoffset : x.zeroExtend 32 = BitVec.ofNat 32 x.toNat := BitVec.eq_of_toNat_eq (by simp)
  rw [encodeLS_eq_or hw hs, wordLS, toInt_emod_128, hoffset]

/-- The words of an access kind decode to the instruction that `op` and `sub` choose. -/
theorem decodesLS_of_fields {w sub : Nat} {i : LS → Instr} (hw : w = 0xC8000000 ∨ w = 0xE8000000) (hs : sub < 32)
    (hi : ∀ iw, field iw 26 6 = w / 2 ^ 26 → field iw 11 5 = sub → decode iw = .ok (i (LS.ofWord iw))) :
    decodesLS w sub i := fun base vt e x => by
  rw [wordLS_eq_encodeLS hw hs, hi _ (op_encodeLS hw hs _) (sub_encodeLS hw hs _),
    ofWord_encodeLS hw hs _ (LS.wf_toInt base vt e x)]

/-- The load words (R77). -/
theorem loads_decode :
    (decodesLS 0xC8000000 0 .lbv ∧ decodesLS 0xC8000000 1 .lsv ∧ decodesLS 0xC8000000 2 .llv ∧ decodesLS 0xC8000000 3 .ldv)
      ∧ (decodesLS 0xC8000000 4 .lqv ∧ decodesLS 0xC8000000 5 .lrv)
      ∧ decodesLS 0xC8000000 6 .lpv ∧ decodesLS 0xC8000000 7 .luv := by
  and_intros <;>
    exact decodesLS_of_fields (.inl rfl) (by decide) fun iw hop hsub => by simp [decode, decodeLoad, hop, hsub]

/-- The store words (R77). -/
theorem stores_decode :
    (decodesLS 0xE8000000 0 .sbv ∧ decodesLS 0xE8000000 1 .ssv ∧ decodesLS 0xE8000000 2 .slv ∧ decodesLS 0xE8000000 3 .sdv)
      ∧ (decodesLS 0xE8000000 4 .sqv ∧ decodesLS 0xE8000000 5 .srv)
      ∧ decodesLS 0xE8000000 6 .spv ∧ decodesLS 0xE8000000 7 .suv := by
  and_intros <;>
    exact decodesLS_of_fields (.inr rfl) (by decide) fun iw hop hsub => by simp [decode, decodeStore, hop, hsub]

end Sys2Proof

/-!
Vector loads and stores (41_load_store.md R122 to R140). Every load is one bus read and one register write, every store one
bus write of a run of bytes: what these two do is said once, `loadsBytes_of_mergeBytes`, `loadsLanes_of_ofFn` and
`storesBytes_of_run`. The pairs and the round trips follow from what the single instructions do.
-/

namespace Sys2Proof.Machine

open Sys2Proof.Claims

/-! ## Addresses and bytes -/

theorem plus_plus (a : Word) (j k : Nat) : plus (plus a j) k = plus a (j + k) := by
  simp only [plus, BitVec.add_assoc, BitVec.ofNat_add]

/-- Going back `k` bytes of `j`. -/
theorem plus_sub {j k : Nat} (a : Word) (h : k ≤ j) : plus a j - BitVec.ofNat 32 k = plus a (j - k) := by
  rw [← Nat.sub_add_cancel h, ← plus_plus, Nat.sub_add_cancel h]
  exact BitVec.add_sub_cancel ..

/-- Sixteen bytes on is the same place of the next line. -/
theorem plus_line_mod (a : Word) : (plus a 16).toNat % 16 = a.toNat % 16 := by
  rw [plus, BitVec.toNat_add]
  have hlt := a.isLt
  simp only [BitVec.toNat_ofNat]
  omega

/-- The start of the block of `m` bytes that an address lies in. -/
theorem ofNat_sub_mod (a : Word) (m : Nat) :
    BitVec.ofNat 32 (a.toNat - a.toNat % m) = a - BitVec.ofNat 32 (a.toNat % m) := by
  have hle := Nat.mod_le a.toNat m
  have h := BitVec.ofNat_sub_ofNat_of_le (w := 32) a.toNat (a.toNat % m) (hle.trans_lt a.isLt) hle
  rw [← h, BitVec.ofNat_toNat, BitVec.setWidth_eq]

theorem vrb_eq_regByte : vrb = regByte := by
  funext v k
  unfold vrb regByte
  split <;> rfl

theorem span_eq_consecutive : span = consecutive := rfl

theorem mem_span {a x : Word} {n : Nat} : x ∈ span a n ↔ ∃ k < n, plus a k = x := by
  simp [span]

/-- Two of sixteen neighbouring addresses that name one byte are one address. -/
theorem State.Inv.eq_of_sameByte {s : State} (hs : s.Inv) {a : Word} {j k : Nat} (hj : j < 16) (hk : k < 16)
    (h : sameByte s (plus a j) (plus a k)) : j = k := hs.bus a j k hj hk h

/-! ## What only the inputs of a state decide -/

section inputsKept
variable {s t : State} (h : portKept s t)
include h

theorem EA_of_portKept (o : LS) (scale : Nat) : EA t o scale = EA s o scale := by
  obtain ⟨⟨hin, -, -⟩, -⟩ := h
  rw [EA, EA, hin]

theorem busAnswer_of_portKept (acc : Access) (addrs : List Word) : busAnswer t acc addrs = busAnswer s acc addrs := by
  obtain ⟨⟨-, -, hcfg⟩, -⟩ := h
  rw [busAnswer, busAnswer, hcfg]

theorem sameByte_of_portKept (a b : Word) : sameByte t a b ↔ sameByte s a b := by
  obtain ⟨⟨-, -, hcfg⟩, -⟩ := h
  rw [sameByte, sameByte, hcfg]

end inputsKept

theorem readByte_of_sameByte {s : State} {a b : Word} (h : sameByte s a b) : s.readByte a = s.readByte b :=
  congrArg (Memory.read s.mem) h

theorem OutsideKept.inv {s t : State} (h : OutsideKept s t) (hs : s.Inv) : t.Inv := by
  obtain ⟨hmem, ⟨-, -, hcfg⟩, -⟩ := h
  exact ⟨hmem ▸ hs.canonical, by rw [hmem, hcfg]; exact hs.within, hcfg ▸ hs.bus⟩

/-! ## One load -/

section load
variable {s : State} {i : Instr} {vt : Fin 32} {addrs : List Word} {f : List Byte → VReg}

/-- An accepted load writes its register and nothing else. -/
theorem exec_load_accepted (h : exec i s = loadReg vt addrs f s) (hbus : busAnswer s .read addrs = none) :
    ∃ t, exec i s = .next t ∧ t.vr[vt] = f (addrs.map s.readByte)
      ∧ vrOnly s t vt ∧ accKept s t ∧ flagsKept s t ∧ latchesKept s t ∧ memoryKept s t ∧ portKept s t :=
  ⟨_, h.trans (loadReg_accepted hbus), by simp, fun _ hq => s.setVR_other _ hq, fun _ => rfl, ⟨rfl, rfl, rfl⟩,
    ⟨rfl, rfl, rfl⟩, fun _ => rfl, ⟨rfl, rfl, rfl⟩, rfl⟩

/-- A refused load ends in the bus fault, at an address of its own. -/
theorem exec_load_refused (h : exec i s = loadReg vt addrs f s) {a : Word} (hbus : busAnswer s .read addrs = some a) :
    exec i s = .fault (.busFault a) ∧ a ∈ addrs :=
  ⟨h.trans (loadReg_refused hbus), mem_of_busRefusal hbus⟩

end load

/-- A load that merges a run of bytes into its register (R123 to R128). -/
theorem loadsBytes_of_mergeBytes {s : State} {i : Instr} {vt : Fin 32} {start n : Nat} {a : Word}
    (h : exec i s = loadReg vt (span a n) (mergeBytes s.vr[vt] start) s) : loadsBytes s i vt start n a := by
  refine ⟨fun hbus => ?_, fun _ => exec_load_refused h⟩
  obtain ⟨t, ht, hvt, frame⟩ := exec_load_accepted h hbus
  refine ⟨t, ht, fun k => ?_, frame⟩
  rw [hvt, vrb_eq_regByte, regByte_mergeBytes]
  simp only [span, List.length_map, List.length_range]
  split_ifs with hk
  · have hlt : k.val - start < n := by omega
    simp [List.getD, hlt]
  · rfl

/-- A load that fills each lane from one byte (R129, R130). -/
theorem loadsLanes_of_ofFn {s : State} {i : Instr} {vt : Fin 32} {a : Nat → Word} {lane : Byte → Lane}
    (h : exec i s = loadReg vt ((List.range 8).map a)
      (fun bytes => Vector.ofFn fun j : LaneIx => lane (bytes.getD j.val 0#8)) s) :
    loadsLanes s i vt a lane := by
  refine ⟨fun hbus => ?_, fun _ => exec_load_refused h⟩
  obtain ⟨t, ht, hvt, frame⟩ := exec_load_accepted h hbus
  refine ⟨t, ht, fun j => ?_, frame⟩
  rw [hvt]
  simp [List.getD]

/-! ## One store -/

/-- A store of a run of up to sixteen bytes, each of them another byte of memory (R131 to R138). -/
theorem storesBytes_of_run {s : State} (hs : s.Inv) {i : Instr} {n : Nat} (hn : n ≤ 16) {a : Word} {byte : Nat → Byte}
    (h : exec i s = storeReg (span a n) ((List.range n).map byte) s) : storesBytes s i n a byte := by
  refine ⟨fun hbus => ⟨_, h.trans (storeReg_accepted hbus), fun k hk => ?_, fun b hb => ?_, rfl, fun _ => rfl,
    ⟨rfl, rfl, rfl⟩, ⟨rfl, rfl, rfl⟩, ⟨rfl, rfl, rfl⟩, rfl⟩,
    fun f hbus => ⟨h.trans (storeReg_refused hbus), mem_of_busRefusal hbus⟩⟩
  · have hread := readByte_stored hs (bytes := (List.range n).map byte) (nodup_consecutive hs.bus a hn) (k := k)
      (by simpa using hk) (by simpa using hk)
    simpa [span_eq_consecutive, getElem_consecutive, plus] using hread
  · refine readByte_stored_other hs _ fun x hx => ?_
    obtain ⟨k, hk, rfl⟩ := mem_span.mp hx
    exact hb k hk

/-- A store keeps the invariant. -/
theorem inv_of_storeReg {s t : State} (hs : s.Inv) {addrs : List Word} {bytes : List Byte}
    (h : storeReg addrs bytes s = .next t) : t.Inv := (storeReg_next h).2 ▸ inv_storedMem hs addrs bytes

/-! ## Groups (R123 to R126, R131 to R134) -/

theorem loadsBytes_of_loadGroup {s : State} {i : Instr} {o : LS} {width n : Nat} (hn : n = min width (16 - o.e.val))
    (h : exec i s = loadGroup width o s) : loadsBytes s i o.vt o.e.val n (EA s o width) := by
  subst hn
  exact loadsBytes_of_mergeBytes h

theorem storesBytes_of_regBytes {s : State} (hs : s.Inv) {i : Instr} {vt : Fin 32} {start n : Nat} (hn : n ≤ 16) {a : Word}
    (h : exec i s = storeReg (span a n) (regBytes s.vr[vt] start n) s) :
    storesBytes s i n a (fun k => vrb s.vr[vt] (Fin.ofNat 16 (start + k))) :=
  storesBytes_of_run hs hn (by rw [h, regBytes, vrb_eq_regByte])

/-- Settles O54: each is the merge of a run of bytes. -/
theorem groupLoadsResult : Obligations.GroupLoadsResult := by
  obtain ⟨⟨hlbv, hlsv, hllv, hldv⟩, -⟩ := loads_decode
  exact ⟨hlbv, hlsv, hllv, hldv, fun s o => ⟨loadsBytes_of_loadGroup (by omega) rfl, loadsBytes_of_loadGroup rfl rfl,
    loadsBytes_of_loadGroup rfl rfl, loadsBytes_of_loadGroup rfl rfl⟩⟩

/-- Settles O57: each is the store of a run of register bytes. -/
theorem groupStoresResult : Obligations.GroupStoresResult := by
  obtain ⟨⟨hsbv, hssv, hslv, hsdv⟩, -⟩ := stores_decode
  exact ⟨hsbv, hssv, hslv, hsdv, fun s o hs => ⟨storesBytes_of_regBytes hs (by decide) rfl,
    storesBytes_of_regBytes hs (by decide) rfl, storesBytes_of_regBytes hs (by decide) rfl,
    storesBytes_of_regBytes hs (by decide) rfl⟩⟩

/-! ## Quads (R127, R128, R135, R136) -/

/-- The line of an address is as many bytes back as the address is into it. -/
theorem lineOf_eq_sub (ea : Word) : lineOf ea = ea - BitVec.ofNat 32 (ea.toNat % 16) := ofNat_sub_mod ea 16

theorem lqv_loadsBytes (s : State) (o : LS) :
    loadsBytes s (.lqv o) o.vt o.e.val (min (16 - (EA s o 16).toNat % 16) (16 - o.e.val)) (EA s o 16) :=
  loadsBytes_of_mergeBytes rfl

theorem lrv_loadsBytes (s : State) (o : LS) :
    loadsBytes s (.lrv o) o.vt (16 - ((EA s o 16).toNat % 16 - o.e.val)) ((EA s o 16).toNat % 16 - o.e.val)
      (EA s o 16 - BitVec.ofNat 32 ((EA s o 16).toNat % 16)) :=
  loadsBytes_of_mergeBytes (by rw [← lineOf_eq_sub]; rfl)

theorem sqv_storesBytes {s : State} (hs : s.Inv) (o : LS) :
    storesBytes s (.sqv o) (16 - (EA s o 16).toNat % 16) (EA s o 16)
      (fun k => vrb s.vr[o.vt] (Fin.ofNat 16 (o.e.val + k))) :=
  storesBytes_of_regBytes hs (by omega) rfl

theorem srv_storesBytes {s : State} (hs : s.Inv) (o : LS) :
    storesBytes s (.srv o) ((EA s o 16).toNat % 16) (EA s o 16 - BitVec.ofNat 32 ((EA s o 16).toNat % 16))
      (fun k => vrb s.vr[o.vt] (Fin.ofNat 16 (o.e.val + 16 - (EA s o 16).toNat % 16 + k))) :=
  storesBytes_of_regBytes hs (by omega) (by rw [← lineOf_eq_sub]; rfl)

/-! A pair: the second instruction's address is `plus ea 16`, sixteen bytes after the first's, and both elements are 0. -/

section pair
variable {s : State} {q : LS} {vt : Fin 32} {ea : Word} (hvt : vt = q.vt) (hq : q.e = 0) (hea : EA s q 16 = plus ea 16)
include hvt hq hea

/-- LRV as second of a pair begins where the first ended. -/
theorem lrv_loadsBytes_of_pair :
    loadsBytes s (.lrv q) vt (16 - ea.toNat % 16) (ea.toNat % 16) (plus ea (16 - ea.toNat % 16)) := by
  have h := lrv_loadsBytes s q
  rwa [hea, plus_line_mod, plus_sub ea (by omega), ← hvt, hq] at h

/-- SRV as second of a pair begins where the first ended, with the register byte that comes next. -/
theorem srv_storesBytes_of_pair (hs : s.Inv) :
    storesBytes s (.srv q) (ea.toNat % 16) (plus ea (16 - ea.toNat % 16))
      (fun k => vrb s.vr[vt] (Fin.ofNat 16 (16 - ea.toNat % 16 + k))) := by
  have h := srv_storesBytes hs q
  rw [hea, plus_line_mod, plus_sub ea (by omega)] at h
  subst hvt
  simpa [hq] using h

end pair

/-- The pair of R128: LQV fills the bytes up to the end of the line, LRV the rest. -/
theorem lqv_lrv_loads (s : State) (p q : LS) (hvt : p.vt = q.vt) (hp : p.e = 0) (hq : q.e = 0)
    (hea : EA s q 16 = plus (EA s p 16) 16)
    (hfirst : busAnswer s .read (span (EA s p 16) (16 - (EA s p 16).toNat % 16)) = none)
    (hrest : busAnswer s .read (span (plus (EA s p 16) (16 - (EA s p 16).toNat % 16)) ((EA s p 16).toNat % 16)) = none) :
    ∃ t u, exec (.lqv p) s = .next t ∧ exec (.lrv q) t = .next u
      ∧ ∀ k : Fin 16, vrb u.vr[p.vt] k = s.readByte (plus (EA s p 16) k.val) := by
  have hlqv := lqv_loadsBytes s p
  generalize EA s p 16 = ea at *
  rw [hp, show min (16 - ea.toNat % 16) (16 - (0 : Fin 16).val) = 16 - ea.toNat % 16 from Nat.min_eq_left (by simp)] at hlqv
  obtain ⟨t, ht, hbytes, -, -, -, -, hmem, hport⟩ := hlqv.1 hfirst
  have hlrv := lrv_loadsBytes_of_pair hvt hq ((EA_of_portKept hport q 16).trans hea)
  obtain ⟨u, hu, hbytes', -⟩ := hlrv.1 ((busAnswer_of_portKept hport ..).trans hrest)
  refine ⟨t, u, ht, hu, fun k => ?_⟩
  rw [hbytes']
  split_ifs with hk
  · rw [hmem, plus_plus, Nat.add_sub_cancel' hk.1]
  · rw [hbytes, if_pos (by simp; omega)]
    rfl

/-- The pair of R136: the two stores are of different bytes, so the second keeps what the first stored. -/
theorem sqv_srv_stores {s : State} (hs : s.Inv) (p q : LS) (hvt : p.vt = q.vt) (hp : p.e = 0) (hq : q.e = 0)
    (hea : EA s q 16 = plus (EA s p 16) 16)
    (hfirst : busAnswer s .write (span (EA s p 16) (16 - (EA s p 16).toNat % 16)) = none)
    (hrest : busAnswer s .write (span (plus (EA s p 16) (16 - (EA s p 16).toNat % 16)) ((EA s p 16).toNat % 16)) = none) :
    ∃ t u, exec (.sqv p) s = .next t ∧ exec (.srv q) t = .next u
      ∧ ∀ k : Fin 16, u.readByte (plus (EA s p 16) k.val) = vrb s.vr[p.vt] k := by
  have hsqv := sqv_storesBytes hs p
  generalize EA s p 16 = ea at *
  obtain ⟨t, ht, hbytes, -, hvr, -, -, -, hport⟩ := hsqv.1 hfirst
  have hinv : t.Inv := inv_of_storeReg hs ht
  have hsrv := srv_storesBytes_of_pair hvt hq ((EA_of_portKept hport q 16).trans hea) hinv
  obtain ⟨u, hu, hbytes', hother, -⟩ := hsrv.1 ((busAnswer_of_portKept hport ..).trans hrest)
  refine ⟨t, u, ht, hu, fun k => ?_⟩
  by_cases hk : k.val < 16 - ea.toNat % 16
  · have hne : ∀ j < ea.toNat % 16, ¬sameByte t (plus ea k) (plus (plus ea (16 - ea.toNat % 16)) j) := fun j hj hsame => by
      rw [plus_plus] at hsame
      have heq := hinv.eq_of_sameByte k.isLt (by omega) hsame
      omega
    rw [hother _ hne, hbytes _ hk]
    simp [hp]
  · have hread := hbytes' (k - (16 - ea.toNat % 16)) (by omega)
    rw [plus_plus, Nat.add_sub_cancel' (by omega)] at hread
    simpa [hvr, Nat.add_sub_cancel' (by omega : 16 - ea.toNat % 16 ≤ k.val)] using hread

/-- Settles O55: the two are merges of runs of bytes, and the second run begins where the first ended. -/
theorem quadLoadsResult : Obligations.QuadLoadsResult := by
  obtain ⟨-, ⟨hlqv, hlrv⟩, -⟩ := loads_decode
  exact ⟨hlqv, hlrv, fun s o => ⟨lqv_loadsBytes s o, lrv_loadsBytes s o⟩, lqv_lrv_loads⟩

/-- Settles O58: the two are stores of runs of register bytes, the second from where the first ended. -/
theorem quadStoresResult : Obligations.QuadStoresResult := by
  obtain ⟨-, ⟨hsqv, hsrv⟩, -⟩ := stores_decode
  exact ⟨hsqv, hsrv, fun s o hs => ⟨sqv_storesBytes hs o, srv_storesBytes hs o⟩, fun _ p q hs => sqv_srv_stores hs p q⟩

/-! ## One byte per lane (R129, R130, R137, R138) -/

theorem packedAddrs_eq (ea : Word) (e : Fin 16) : packedAddrs ea e = (List.range 8).map fun i =>
    plus (ea - BitVec.ofNat 32 (ea.toNat % 8)) ((ea.toNat % 8 + 16 - e.val + i) % 16) := by
  simp only [packedAddrs, ofNat_sub_mod, Nat.mod_add_mod, plus]

theorem upperByte_eq_vrb (v : VReg) (j : Nat) : upperByte v j = vrb v (Fin.ofNat 16 (2 * (j % 8))) := by
  have hdiv : 2 * (j % 8) % 16 / 2 = j % 8 := by omega
  have heven : 2 * (j % 8) % 16 % 2 = 0 := by omega
  simp only [upperByte, vrb, Fin.val_ofNat, hdiv, heven, if_true]

theorem fractionByte_eq_ushiftRight (v : VReg) (j : Nat) :
    fractionByte v j = ((v[Fin.ofNat 8 j]) >>> 7).extractLsb' 0 8 := by
  ext i hi
  simp [fractionByte, Nat.add_comm]

/-- Settles O56: the addresses are those of the window, each lane is made of its byte. -/
theorem packedLoadsResult : Obligations.PackedLoadsResult := by
  obtain ⟨-, -, hlpv, hluv⟩ := loads_decode
  exact ⟨hlpv, hluv, fun s o => ⟨loadsLanes_of_ofFn (by rw [← packedAddrs_eq]; rfl),
    loadsLanes_of_ofFn (by rw [← packedAddrs_eq]; rfl)⟩⟩

/-- Settles O59: each is the store of eight bytes, the two packings those of the spec. -/
theorem packedStoresResult : Obligations.PackedStoresResult := by
  obtain ⟨-, -, hspv, hsuv⟩ := stores_decode
  refine ⟨hspv, hsuv, fun s o hs => ?_⟩
  simp only [← upperByte_eq_vrb, ← fractionByte_eq_ushiftRight]
  exact ⟨storesBytes_of_run hs (by decide) rfl, storesBytes_of_run hs (by decide) rfl⟩

/-! ## Round trips (R139) -/

/-- A load of a run of bytes after a store that put register bytes there takes them back, as far as the register goes. -/
theorem load_after_store {s : State} {p q : LS} {i j : Instr} {scale n : Nat}
    (hstore : storesBytes s i n (EA s p scale) (fun k => vrb s.vr[p.vt] (Fin.ofNat 16 (p.e.val + k))))
    (hload : ∀ t, EA t q scale = EA s p scale →
      loadsBytes t j q.vt q.e.val (min n (16 - q.e.val)) (EA t q scale))
    (he : p.e = q.e) (hea : EA s p scale = EA s q scale) (hwrite : busAnswer s .write (span (EA s p scale) n) = none)
    (hread : busAnswer s .read (span (EA s p scale) (min n (16 - p.e.val))) = none) :
    ∃ t u, exec i s = .next t ∧ exec j t = .next u
      ∧ ∀ k : Fin 16, p.e.val ≤ k.val → k.val < p.e.val + min n (16 - p.e.val) → vrb u.vr[q.vt] k = vrb s.vr[p.vt] k := by
  obtain ⟨t, ht, hbytes, -, -, -, -, -, hport⟩ := hstore.1 hwrite
  have heat : EA t q scale = EA s p scale := (EA_of_portKept hport q scale).trans hea.symm
  have hloads := hload t heat
  rw [heat, ← he] at hloads
  obtain ⟨u, hu, hbytes', -⟩ := hloads.1 ((busAnswer_of_portKept hport ..).trans hread)
  refine ⟨t, u, ht, hu, fun k hlow hhigh => ?_⟩
  rw [hbytes', if_pos ⟨hlow, hhigh⟩, hbytes _ (by omega)]
  simp [Nat.add_sub_cancel' hlow]

/-- A store of the bytes that memory holds already changes no byte. -/
theorem memoryKept_of_storesBytes {s t : State} {i : Instr} {n : Nat} {a : Word} {byte : Nat → Byte}
    (hstore : storesBytes t i n a byte) (hbyte : ∀ k < n, byte k = s.readByte (plus a k)) (hmem : memoryKept s t)
    (hbus : busAnswer t .write (span a n) = none) : ∃ u, exec i t = .next u ∧ memoryKept s u := by
  obtain ⟨u, hu, hbytes, hother, -, -, -, -, hport⟩ := hstore.1 hbus
  refine ⟨u, hu, fun b => ?_⟩
  by_cases hb : ∃ k < n, sameByte t b (plus a k)
  · obtain ⟨k, hk, hsame⟩ := hb
    calc u.readByte b = u.readByte (plus a k) := readByte_of_sameByte ((sameByte_of_portKept hport ..).mpr hsame)
      _ = t.readByte (plus a k) := by rw [hbytes k hk, hbyte k hk, hmem]
      _ = s.readByte b := by rw [← readByte_of_sameByte hsame, hmem]
  · rw [hother b fun k hk hsame => hb ⟨k, hk, hsame⟩, hmem]

/-- With element 0 the rotation of LPV and LUV is by nothing, and eight bytes from `EA` on stay in the window. -/
theorem packedAddrs_zero (ea : Word) : packedAddrs ea 0 = span ea 8 := by
  rw [packedAddrs_eq]
  refine List.map_congr_left fun i hi => ?_
  have hlt := List.mem_range.mp hi
  have hmod : (ea.toNat % 8 + 16 - (0 : Fin 16).val + i) % 16 = ea.toNat % 8 + i := by simp; omega
  rw [hmod, ← plus_plus]
  exact congrArg (plus · i) (BitVec.sub_add_cancel ..)

/-- Bits 14:7 of a lane whose other bits are zero (R130). -/
theorem fraction_append (b : Byte) : (0#1 ++ b ++ 0#7 : Lane).extractLsb' 7 8 = b := by
  ext i hi
  rw [BitVec.getElem_extractLsb', BitVec.getLsbD_append, if_neg (by omega), Nat.add_sub_cancel_left,
    BitVec.getLsbD_append, if_pos hi, BitVec.getLsbD_eq_getElem hi]

/-- The byte of a lane that LPV made is the one loaded. -/
theorem packedByte_of_lane {v : VReg} {j : LaneIx} {b : Byte} (h : v[j] = b ++ 0#8) : packedByte v 0 j.val = b := by
  have hlane : v[j.val % 8]'(by omega) = b ++ 0#8 := by simpa [Nat.mod_eq_of_lt j.isLt] using h
  rw [packedByte, if_pos (by simp; omega), upperByte]
  simp [hlane, upper_append]

/-- The byte of a lane that LUV made is the one loaded. -/
theorem unsignedByte_of_lane {v : VReg} {j : LaneIx} {b : Byte} (h : v[j] = 0#1 ++ b ++ 0#7) :
    unsignedByte v 0 j.val = b := by
  have hlane : v[j.val % 8]'(by omega) = 0#1 ++ b ++ 0#7 := by simpa [Nat.mod_eq_of_lt j.isLt] using h
  rw [unsignedByte, if_pos (by simp; omega), fractionByte]
  simp [hlane, fraction_append]

/-- A packed load and the store of the same packing write back the bytes that were read. -/
theorem store_after_load {s : State} (hs : s.Inv) {o : LS} (he : o.e = 0) {i j : Instr} (lane : Byte → Lane)
    {byte : VReg → Nat → Byte}
    (hload : exec i s = loadReg o.vt (packedAddrs (EA s o 8) o.e)
      (fun bytes => Vector.ofFn fun k : LaneIx => lane (bytes.getD k.val 0#8)) s)
    (hstore : ∀ t : State, t.Inv → storesBytes t j 8 (EA t o 8) (byte t.vr[o.vt]))
    (hbyte : ∀ (v : VReg) (k : LaneIx) (b : Byte), v[k] = lane b → byte v k.val = b)
    (hread : busAnswer s .read (span (EA s o 8) 8) = none) (hwrite : busAnswer s .write (span (EA s o 8) 8) = none) :
    ∃ t u, exec i s = .next t ∧ exec j t = .next u ∧ memoryKept s u := by
  rw [he, packedAddrs_zero] at hload
  obtain ⟨t, ht, hlanes, -, -, -, -, hmem, hport⟩ := (loadsLanes_of_ofFn hload).1 hread
  have hinv : t.Inv := (OutsideKept.of_loadReg (hload.symm.trans ht)).inv hs
  have hstores := hstore t hinv
  rw [EA_of_portKept hport] at hstores
  obtain ⟨u, hu, hkept⟩ := memoryKept_of_storesBytes hstores (fun k hk => hbyte _ ⟨k, hk⟩ _ (hlanes ⟨k, hk⟩)) hmem
    ((busAnswer_of_portKept hport ..).trans hwrite)
  exact ⟨t, u, ht, hu, hkept⟩

/-- Settles O60: memory holds the register bytes that the store put there, or after a packed load those it read. -/
theorem storeThenLoadRoundTrip : Obligations.StoreThenLoadRoundTrip := by
  refine ⟨fun s p q st ld scale n hs hkind => ?_, fun s o ld st hs he hkind => ?_⟩
  · obtain ⟨rfl, rfl, rfl, rfl⟩ | ⟨rfl, rfl, rfl, rfl⟩ | ⟨rfl, rfl, rfl, rfl⟩ | ⟨rfl, rfl, rfl, rfl⟩
      | ⟨rfl, rfl, rfl, rfl⟩ := hkind
    case inr.inr.inr.inr =>
      exact load_after_store (sqv_storesBytes hs p) fun t hea => by rw [← hea]; exact lqv_loadsBytes t q
    all_goals exact load_after_store (storesBytes_of_regBytes hs (by decide) rfl) fun t _ => loadsBytes_of_loadGroup rfl rfl
  · obtain ⟨rfl, rfl⟩ | ⟨rfl, rfl⟩ := hkind
    · exact store_after_load (byte := fun v => packedByte v o.e) hs he (fun b => b ++ 0#8) rfl
        (fun t ht => storesBytes_of_run ht (by decide) rfl) fun v k b hk => he ▸ packedByte_of_lane hk
    · exact store_after_load (byte := fun v => unsignedByte v o.e) hs he (fun b => 0#1 ++ b ++ 0#7) rfl
        (fun t ht => storesBytes_of_run ht (by decide) rfl) fun v k b hk => he ▸ unsignedByte_of_lane hk

end Sys2Proof.Machine

/-!
Add and subtract (42_add_sub.md R150 to R154). The four instructions are two shared operations: each writes the exact value of
a lane, wrapped, to `ACC_LO`, and differs from the other only in what goes to the register and to `VCO`.
-/

namespace Sys2Proof

open Sys2Proof.Claims

/-- The words of a function code decode to the instruction that the code chooses (R72). -/
theorem decodesV_of_fields {f : Nat} {i : V3 → Instr} (hf : f < 64)
    (hi : ∀ iw, field iw 26 6 = 0x12 → field iw 25 1 = 1 → field iw 0 6 = f → decode iw = .ok (i (V3.ofWord iw))) :
    decodesV f i := fun o => by
  rw [wordV, ← encodeV3_eq_or hf, hi _ (op_encodeV3 hf o) (co_encodeV3 hf o) (funct_encodeV3 hf o), ofWord_encodeV3 hf]

/-- The add and subtract words (R76). -/
theorem addSub_decode : (decodesV 0x10 .vadd ∧ decodesV 0x11 .vsub) ∧ decodesV 0x14 .vaddc ∧ decodesV 0x15 .vsubc := by
  and_intros <;>
    exact decodesV_of_fields (by decide) fun iw hop hco hfunct => by simp [decode, decodeV, hop, hco, hfunct]

end Sys2Proof

namespace Sys2Proof.Machine

open Sys2Proof.Claims

/-- The unsigned reading of an integer taken into a word is the integer mod the word's range. -/
theorem toNat_ofInt_eq_emod (w : Nat) (x : Int) : ((BitVec.ofInt w x).toNat : Int) = x % 2 ^ w := by
  rw [BitVec.toNat_ofInt, Int.toNat_of_nonneg (Int.emod_nonneg x (by positivity)), Nat.cast_pow, Nat.cast_ofNat]

/-- Writing `ACC_LO` keeps the other two planes (R26). -/
theorem upperKept_setAccLo (s : State) (f : LaneIx → Lane) : upperKept s (s.setAccLo f) :=
  fun i => ⟨s.setAccLo_accHi f i, s.setAccLo_accMd f i⟩

/-! ## The two shared operations -/

section Operations
variable (s : State) (vd : Fin 32) (x : LaneIx → Int)

/-- What neither operation writes. -/
theorem setVco_setLanes_setAccLo_frame (f g : LaneIx → Lane) (v : BitVec 16) :
    let t := ((s.setAccLo f).setLanes vd g).setVco v
    t.vcc = s.vcc ∧ t.vce = s.vce ∧ upperKept s t ∧ vrOnly s t vd ∧ latchesKept s t ∧ memoryKept s t ∧ portKept s t :=
  ⟨rfl, rfl, upperKept_setAccLo s f, fun _ hq => (s.setAccLo f).setLanes_other g hq, ⟨rfl, rfl, rfl⟩, fun _ => rfl,
    ⟨rfl, rfl, rfl⟩, rfl⟩

/-- Both write the wrapped value to the low plane. -/
theorem toNat_lo_setAccLo_ofInt (i : LaneIx) :
    ((lo (s.setAccLo fun i => BitVec.ofInt 16 (x i)).acc[i]).toNat : Int) = x i % 2 ^ 16 := by
  have hlo : lo (s.setAccLo fun i => BitVec.ofInt 16 (x i)).acc[i] = BitVec.ofInt 16 (x i) := s.setAccLo_accLo _ i
  rw [hlo, toNat_ofInt_eq_emod]

theorem addSaturating_addsSaturating : addsSaturating s (addSaturating vd x s) vd x := by
  refine ⟨fun i => ⟨toNat_lo_setAccLo_ofInt s x i, ?_⟩, rfl, setVco_setLanes_setAccLo_frame ..⟩
  have hlane : (addSaturating vd x s).vr[vd][i] = clampS16 (x i) := State.setLanes_lane _ vd _ i
  rw [hlane]
  exact toInt_clampS16 (x i)

theorem addWrapping_addsWrapping {c n : LaneIx → Bool} {C N : LaneIx → Prop} (hc : ∀ i, c i = true ↔ C i)
    (hn : ∀ i, n i = true ↔ N i) : addsWrapping s (addWrapping vd x c n s) vd x C N := by
  refine ⟨fun i => ⟨toNat_lo_setAccLo_ofInt s x i, ?_, ?_, ?_⟩, setVco_setLanes_setAccLo_frame ..⟩
  · have hlane : (addWrapping vd x c n s).vr[vd][i] = BitVec.ofInt 16 (x i) := State.setLanes_lane _ vd _ i
    rw [hlane, toNat_ofInt_eq_emod]
  · have hcarry : carry (addWrapping vd x c n s) i = c i := packFlags_low c n i
    rw [hcarry, hc]
  · have hne : notEq (addWrapping vd x c n s) i = n i := packFlags_high c n i
    rw [hne, hn]

end Operations

/-! ## The borrow and the not-equal bit of a difference (R154) -/

theorem decide_toNat_lt_iff_sub_neg (a b : Lane) :
    decide (a.toNat < b.toNat) = true ↔ (a.toNat : Int) - (b.toNat : Int) < 0 := by
  rw [decide_eq_true_iff]
  omega

theorem decide_ne_iff_sub_ne_zero (a b : Lane) : decide (a ≠ b) = true ↔ (a.toNat : Int) - (b.toNat : Int) ≠ 0 := by
  rw [decide_eq_true_iff, ne_eq, ← BitVec.toNat_inj]
  omega

/-! ## The obligations of add and subtract -/

/-- Settles O23: both are the saturating operation, on the three-term sum and difference. -/
theorem vaddVsubResult : Obligations.VaddVsubResult := by
  obtain ⟨⟨hvadd, hvsub⟩, -⟩ := addSub_decode
  exact ⟨hvadd, hvsub, fun s o =>
    ⟨⟨_, rfl, addSaturating_addsSaturating s o.vd _⟩, ⟨_, rfl, addSaturating_addsSaturating s o.vd _⟩⟩⟩

/-- Settles O24: both are the wrapping operation, whose carry and not-equal bits are those of the exact unsigned value. -/
theorem vaddcVsubcResult : Obligations.VaddcVsubcResult := by
  obtain ⟨-, hvaddc, hvsubc⟩ := addSub_decode
  refine ⟨hvaddc, hvsubc, fun s o => ⟨⟨_, rfl, ?vaddc⟩, ⟨_, rfl, ?vsubc⟩⟩⟩
  case vaddc => exact addWrapping_addsWrapping s o.vd _ (fun _ => decide_eq_true_iff) fun _ => .of_eq Bool.false_eq_true
  case vsubc =>
    exact addWrapping_addsWrapping s o.vd _ (fun i => decide_toNat_lt_iff_sub_neg (S s o i) (T s o i))
      fun i => decide_ne_iff_sub_ne_zero (S s o i) (T s o i)

end Sys2Proof.Machine

/-!
The logical instructions (43_logical.md R160 to R166). The six are one shared operation on six functions of the two source
lanes; only what it does to the accumulator depends on the configuration.
-/

namespace Sys2Proof

open Sys2Proof.Claims

/-- The words of the logical instructions (R76). -/
theorem logical_decode : decodesV 0x28 .vand ∧ decodesV 0x29 .vnand ∧ decodesV 0x2A .vor ∧ decodesV 0x2B .vnor
    ∧ decodesV 0x2C .vxor ∧ decodesV 0x2D .vnxor := by
  and_intros <;>
    exact decodesV_of_fields (by decide) fun iw hop hco hfunct => by simp [decode, decodeV, hop, hco, hfunct]

end Sys2Proof

namespace Sys2Proof.Machine

open Sys2Proof.Claims

section Operation
variable {s : State} (o : V3) (f : Lane → Lane → Lane)

/-- With `LOGICAL_ACC_LO` false the accumulator is not written (R160). -/
theorem logical_acc_of_false (h : s.cfg.logicalAccLo = false) : (logical o f s).acc = s.acc := by
  rw [logical_eq]
  exact if_neg (by simp [h])

/-- With `LOGICAL_ACC_LO` true the low plane takes the result of every lane (R160). -/
theorem logical_acc_of_true (h : s.cfg.logicalAccLo = true) :
    (logical o f s).acc = (s.setAccLo fun i => f (S s o i) (T s o i)).acc := by
  rw [logical_eq]
  exact if_pos h

theorem logical_logicalTo : logicalTo s (logical o f s) o fun i => f (S s o i) (T s o i) := by
  refine ⟨fun i => ?lane, fun h i => ?accKept, fun h => ⟨fun i => ?upperKept, fun i => ?low⟩, ?frame⟩
  case lane => exact State.setLanes_lane _ o.vd _ i
  case accKept => rw [logical_acc_of_false o f h]
  case upperKept =>
    rw [logical_acc_of_true o f h]
    exact upperKept_setAccLo s _ i
  case low =>
    rw [logical_acc_of_true o f h]
    exact s.setAccLo_accLo _ i
  case frame =>
    rw [logical_eq]
    exact ⟨fun _ hq => s.setLanes_other _ hq, ⟨rfl, rfl, rfl⟩, ⟨rfl, rfl, rfl⟩, fun _ => rfl, ⟨rfl, rfl, rfl⟩, rfl⟩

end Operation

/-- Settles O26: each instruction is the shared operation on its own function of the two source lanes. -/
theorem logicalResult : Obligations.LogicalResult := by
  obtain ⟨hvand, hvnand, hvor, hvnor, hvxor, hvnxor⟩ := logical_decode
  exact ⟨hvand, hvnand, hvor, hvnor, hvxor, hvnxor, fun s o =>
    ⟨⟨_, rfl, logical_logicalTo o _⟩, ⟨_, rfl, logical_logicalTo o _⟩, ⟨_, rfl, logical_logicalTo o _⟩,
      ⟨_, rfl, logical_logicalTo o _⟩, ⟨_, rfl, logical_logicalTo o _⟩, ⟨_, rfl, logical_logicalTo o _⟩⟩⟩

end Sys2Proof.Machine

/-!
Multiply and multiply-accumulate (44_multiply.md R170 to R183). The twelve instructions are one shared operation on twelve exact
values: what it leaves in an accumulator lane is an integer taken mod 2^48, so each corner case of the rules is a fact about the
planes and the clamps of such a lane, and about the range of a product of two lanes.
-/

namespace Sys2Proof

open Sys2Proof.Claims

/-- The words of the "mul" instructions (R76). -/
theorem multiply_decode : (decodesV 0x00 .vmulf ∧ decodesV 0x01 .vmulu) ∧ decodesV 0x04 .vmudl ∧ decodesV 0x05 .vmudm
    ∧ decodesV 0x06 .vmudn ∧ decodesV 0x07 .vmudh := by
  and_intros <;>
    exact decodesV_of_fields (by decide) fun iw hop hco hfunct => by simp [decode, decodeV, hop, hco, hfunct]

/-- The words of the "mac" instructions (R76). -/
theorem multiplyAccumulate_decode : (decodesV 0x08 .vmacf ∧ decodesV 0x09 .vmacu) ∧ decodesV 0x0C .vmadl
    ∧ decodesV 0x0D .vmadm ∧ decodesV 0x0E .vmadn ∧ decodesV 0x0F .vmadh := by
  and_intros <;>
    exact decodesV_of_fields (by decide) fun iw hop hco hfunct => by simp [decode, decodeV, hop, hco, hfunct]

end Sys2Proof

namespace Sys2Proof.Machine

open Sys2Proof.Claims

/-! ## The bits of an integer taken into a word -/

/-- A slice of the wrapped integer is the quotient by the slice's weight, wrapped in turn. -/
theorem extractLsb'_ofInt {w start len : Nat} (h : start + len ≤ w) (x : Int) :
    (BitVec.ofInt w x).extractLsb' start len = BitVec.ofInt len (x / 2 ^ start) := by
  have hword := toNat_ofInt_eq_emod w x
  have hslice := toNat_ofInt_eq_emod len (x / 2 ^ start)
  have hpow : (2 : Int) ^ w = 2 ^ start * (2 ^ len * 2 ^ (w - (start + len))) := by
    rw [← mul_assoc, ← pow_add, ← pow_add, Nat.add_sub_cancel' h]
  refine BitVec.eq_of_toNat_eq (Int.ofNat_inj.mp ?_)
  rw [hslice, BitVec.extractLsb'_toNat, Nat.shiftRight_eq_div_pow]
  push_cast
  rw [hword, Int.emod_def x, hpow, mul_assoc, Int.sub_mul_ediv_left _ _ (by positivity), mul_assoc,
    Int.sub_mul_emod_self_left]

theorem accLo_ofInt (x : Int) : accLo (BitVec.ofInt 48 x) = BitVec.ofInt 16 x := by
  rw [accLo, extractLsb'_ofInt (by decide), pow_zero, Int.ediv_one]

/-- Within the accumulator's range the upper bits are the exact quotient. -/
theorem accUpper_ofInt {x : Int} (hlow : -2 ^ 47 ≤ x) (hhigh : x < 2 ^ 47) :
    accUpper (BitVec.ofInt 48 x) = x / 2 ^ 16 := by
  rw [accUpper, extractLsb'_ofInt (by decide), BitVec.toInt_ofInt_eq_self (by decide) (by omega) (by omega)]

/-- A multiple of 2^16 has nothing in the low sixteen bits. -/
theorem ofInt_mul_two_pow_eq_zero (p : Int) : BitVec.ofInt 16 (p * 2 ^ 16) = 0#16 := by
  rw [BitVec.ofInt_mul, show BitVec.ofInt 16 (2 ^ 16) = 0#16 by decide, BitVec.mul_zero]

/-! ## The clamps of an integer taken mod 2^48 -/

/-- The signed clamp does not act on a 32-bit signed number: it gives the middle plane (R106). -/
theorem clampSignedMid_ofInt_eq_accMd {x : Int} (hlow : -2 ^ 31 ≤ x) (hhigh : x < 2 ^ 31) :
    clampSignedMid (BitVec.ofInt 48 x) = accMd (BitVec.ofInt 48 x) := by
  have hupper := accUpper_ofInt (x := x) (by omega) (by omega)
  have hmd := toNat_accMd (BitVec.ofInt 48 x)
  refine clampSignedMid_eq ?_
  rw [BitVec.toInt_eq_toNat_cond]
  split <;> omega

/-- Nor does the low clamp: it gives the low plane (R108). -/
theorem clampUnsignedLow_ofInt_eq_accLo {x : Int} (hlow : -2 ^ 31 ≤ x) (hhigh : x < 2 ^ 31) :
    clampUnsignedLow (BitVec.ofInt 48 x) = accLo (BitVec.ofInt 48 x) := by
  have hupper := accUpper_ofInt (x := x) (by omega) (by omega)
  rw [clampUnsignedLow, if_neg (by omega), if_neg (by omega)]

/-- Upper bits that are not positive clamp to zero: at zero the middle plane is zero itself (R107). -/
theorem clampUnsignedMid_eq_zero {a : AccLane} (h : accUpper a ≤ 0) : clampUnsignedMid a = 0x0000#16 := by
  have hmd := toNat_accMd a
  unfold clampUnsignedMid
  split_ifs with hneg hmax
  · rfl
  · omega
  · exact BitVec.eq_of_toNat_eq (by rw [BitVec.toNat_ofNat]; omega)

/-! ## The range of a product of two lanes -/

section Products
variable (a b : Lane)

theorem abs_toInt_le : |a.toInt| ≤ 2 ^ 15 := abs_le.mpr ⟨a.le_toInt, a.toInt_lt.le⟩

theorem abs_toInt_le_of_ne_least {a : Lane} (h : a ≠ 0x8000#16) : |a.toInt| ≤ 2 ^ 15 - 1 := by
  have hlow : -2 ^ 15 ≤ a.toInt := a.le_toInt
  have hhigh : a.toInt < 2 ^ 15 := a.toInt_lt
  have hne : a.toInt ≠ -2 ^ 15 := fun h' => h (BitVec.eq_of_toInt_eq h')
  exact abs_le.mpr ⟨by omega, by omega⟩

theorem abs_toInt_mul_toInt_le : |a.toInt * b.toInt| ≤ 2 ^ 30 := by
  rw [abs_mul]
  exact mul_le_mul (abs_toInt_le a) (abs_toInt_le b) (abs_nonneg _) (by decide)

/-- Only the product of the two least lanes reaches the bound (R172). -/
theorem abs_toInt_mul_toInt_le_of_not_least {a b : Lane} (h : ¬(a = 0x8000#16 ∧ b = 0x8000#16)) :
    |a.toInt * b.toInt| ≤ 2 ^ 15 * (2 ^ 15 - 1) := by
  rw [abs_mul]
  by_cases ha : a = 0x8000#16
  · exact mul_le_mul (abs_toInt_le a) (abs_toInt_le_of_ne_least fun hb => h ⟨ha, hb⟩) (abs_nonneg _) (by decide)
  · rw [mul_comm]
    exact mul_le_mul (abs_toInt_le b) (abs_toInt_le_of_ne_least ha) (abs_nonneg _) (by decide)

theorem abs_toInt_mul_toNat_le : |a.toInt * (b.toNat : Int)| ≤ 2 ^ 15 * (2 ^ 16 - 1) := by
  rw [abs_mul, Nat.abs_cast]
  exact mul_le_mul (abs_toInt_le a) (by omega) (by omega) (by decide)

theorem toNat_mul_toNat_lt : (a.toNat : Int) * (b.toNat : Int) < 2 ^ 32 := by
  have h := Nat.mul_lt_mul'' a.isLt b.isLt
  omega

end Products

/-! ## The corner cases, one source pair at a time -/

section CornerCases
variable (a b : Lane)

/-- The rounded doubled product leaves the 32-bit signed range for one pair only (R172). -/
theorem clampSignedMid_roundedDouble :
    let x := BitVec.ofInt 48 (2 * (a.toInt * b.toInt) + 0x8000)
    if a = 0x8000#16 ∧ b = 0x8000#16 then clampSignedMid x = 0x7FFF#16 else clampSignedMid x = accMd x := by
  intro x
  split_ifs with h
  · obtain ⟨rfl, rfl⟩ := h
    decide
  · have hp := abs_le.mp (abs_toInt_mul_toInt_le_of_not_least h)
    exact clampSignedMid_ofInt_eq_accMd (by omega) (by omega)

/-- The rounded double of a negative product has no positive upper bits (R173). -/
theorem clampUnsignedMid_roundedDouble_of_neg {a b : Lane} (h : a.toInt * b.toInt < 0) :
    clampUnsignedMid (BitVec.ofInt 48 (2 * (a.toInt * b.toInt) + 0x8000)) = 0x0000#16 := by
  have hp := abs_le.mp (abs_toInt_mul_toInt_le a b)
  have hupper := accUpper_ofInt (x := 2 * (a.toInt * b.toInt) + 0x8000) (by omega) (by omega)
  exact clampUnsignedMid_eq_zero (by omega)

/-- The upper half of an unsigned product is one lane wide (R174). -/
theorem planes_upperProduct :
    let x := BitVec.ofInt 48 ((a.toNat : Int) * (b.toNat : Int) / 2 ^ 16)
    accHi x = 0#16 ∧ accMd x = 0#16 ∧ clampUnsignedLow x = accLo x := by
  have hp := toNat_mul_toNat_lt a b
  have hpos : 0 ≤ (a.toNat : Int) * (b.toNat : Int) := by positivity
  intro x
  refine ⟨?hi, ?md, clampUnsignedLow_ofInt_eq_accLo (by omega) (by omega)⟩
  case hi => rw [accHi, extractLsb'_ofInt (by decide), Int.ediv_eq_zero_of_lt (by omega) (by omega)]; rfl
  case md => rw [accMd, extractLsb'_ofInt (by decide), Int.ediv_eq_zero_of_lt (by omega) (by omega)]; rfl

/-- A product with one unsigned factor is a 32-bit signed number (R175). -/
theorem clampSignedMid_mixedProduct :
    let x := BitVec.ofInt 48 (a.toInt * (b.toNat : Int))
    clampSignedMid x = accMd x := by
  have hp := abs_le.mp (abs_toInt_mul_toNat_le a b)
  exact clampSignedMid_ofInt_eq_accMd (by omega) (by omega)

/-- The same with the unsigned factor first (R176). -/
theorem clampUnsignedLow_mixedProduct :
    let x := BitVec.ofInt 48 ((a.toNat : Int) * b.toInt)
    clampUnsignedLow x = accLo x := by
  have hp := abs_le.mp (abs_toInt_mul_toNat_le b a)
  rw [mul_comm b.toInt] at hp
  exact clampUnsignedLow_ofInt_eq_accLo (by omega) (by omega)

/-- The product stands whole in the upper bits, so the clamp saturates it (R177). -/
theorem clampSignedMid_shiftedProduct :
    let x := BitVec.ofInt 48 (a.toInt * b.toInt * 2 ^ 16)
    accLo x = 0#16 ∧ saturated (a.toInt * b.toInt) (clampSignedMid x) := by
  have hp := abs_le.mp (abs_toInt_mul_toInt_le a b)
  intro x
  have hupper : accUpper x = a.toInt * b.toInt := by
    rw [accUpper_ofInt (by omega) (by omega), Int.mul_ediv_cancel _ (by decide)]
  refine ⟨?low, ?saturated⟩
  case low => rw [accLo_ofInt, ofInt_mul_two_pow_eq_zero]
  case saturated => rw [clampSignedMid, hupper]; exact toInt_clampS16 _

end CornerCases

/-- Adding a multiple of 2^16 keeps the low plane and adds to the upper bits (R183). -/
theorem planes_toInt_add_mul_two_pow (a : AccLane) (p : Int) :
    let x := BitVec.ofInt 48 (a.toInt + p * 2 ^ 16)
    accLo x = accLo a ∧ x.extractLsb' 16 32 = a.extractLsb' 16 32 + BitVec.ofInt 32 p := by
  have ha : BitVec.ofInt 48 a.toInt = a := BitVec.ofInt_toInt
  intro x
  refine ⟨?low, ?upper⟩
  case low =>
    rw [accLo_ofInt, BitVec.ofInt_add, ofInt_mul_two_pow_eq_zero, BitVec.add_zero, ← accLo_ofInt, ha]
  case upper =>
    rw [extractLsb'_ofInt (by decide), Int.add_mul_ediv_right _ _ (by decide), BitVec.ofInt_add,
      ← extractLsb'_ofInt (w := 48) (by decide), ha]

/-! ## The shared operation -/

section Operation
variable (s : State) (o : V3) (x : LaneIx → Int) (clamp : AccLane → Lane)

@[simp] theorem mulSet_acc_lane (i : LaneIx) : (mulSet o x clamp s).acc[i] = BitVec.ofInt 48 (x i) :=
  s.setAcc_lane _ i

@[simp] theorem mulSet_vr_lane (i : LaneIx) : (mulSet o x clamp s).vr[o.vd][i] = clamp (BitVec.ofInt 48 (x i)) :=
  State.setLanes_lane _ o.vd _ i

variable {clamp}

theorem mulSet_multiplies {R : AccLane → Lane → Prop} (hclamp : ∀ a, R a (clamp a)) :
    multiplies s (mulSet o x clamp s) o x R := by
  refine ⟨fun i => ⟨?acc, ?lane⟩, ?frame⟩
  case acc => rw [mulSet_acc_lane, toNat_ofInt_eq_emod]
  case lane =>
    rw [mulSet_acc_lane, mulSet_vr_lane]
    exact hclamp _
  case frame =>
    rw [mulSet_eq]
    exact ⟨fun _ hq => s.setLanes_other _ hq, ⟨rfl, rfl, rfl⟩, ⟨rfl, rfl, rfl⟩, fun _ => rfl, ⟨rfl, rfl, rfl⟩, rfl⟩

/-- A multiply-accumulate is the same operation on the sum with the old accumulator (R171). -/
theorem mulAdd_multiplies {R : AccLane → Lane → Prop} (hclamp : ∀ a, R a (clamp a)) :
    multiplies s (mulAdd o x clamp s) o (fun i => s.acc[i].toInt + x i) R :=
  mulSet_multiplies s o _ hclamp

end Operation

theorem clampSignedMid_signedMid (a : AccLane) : signedMid a (clampSignedMid a) := toInt_clampS16 _

theorem clampUnsignedMid_unsignedMid (a : AccLane) : unsignedMid a (clampUnsignedMid a) := rfl

theorem clampUnsignedLow_unsignedLow (a : AccLane) : unsignedLow a (clampUnsignedLow a) := rfl

/-! ## The obligations of multiply -/

/-- Settles O27: both are the shared operation on the rounded doubled product, under either middle clamp. -/
theorem vmulfVmuluResult : Obligations.VmulfVmuluResult := by
  obtain ⟨⟨hvmulf, hvmulu⟩, -⟩ := multiply_decode
  refine ⟨hvmulf, hvmulu, fun s o =>
    ⟨⟨_, rfl, mulSet_multiplies s o _ clampSignedMid_signedMid, fun i => ?vmulf⟩,
      ⟨_, rfl, mulSet_multiplies s o _ clampUnsignedMid_unsignedMid, fun i hneg => ?vmulu⟩⟩⟩
  case vmulf =>
    rw [mulSet_acc_lane, mulSet_vr_lane]
    exact clampSignedMid_roundedDouble (S s o i) (T s o i)
  case vmulu =>
    rw [mulSet_vr_lane]
    exact clampUnsignedMid_roundedDouble_of_neg hneg

/-- Settles O28: each is the shared operation on its own product, whose range decides what the clamp does. -/
theorem vmudResult : Obligations.VmudResult := by
  obtain ⟨-, hvmudl, hvmudm, hvmudn, hvmudh⟩ := multiply_decode
  refine ⟨hvmudl, hvmudm, hvmudn, hvmudh, fun s o =>
    ⟨⟨_, rfl, mulSet_multiplies s o _ clampUnsignedLow_unsignedLow, fun i => ?vmudl⟩,
      ⟨_, rfl, mulSet_multiplies s o _ clampSignedMid_signedMid, fun i => ?vmudm⟩,
      ⟨_, rfl, mulSet_multiplies s o _ clampUnsignedLow_unsignedLow, fun i => ?vmudn⟩,
      ⟨_, rfl, mulSet_multiplies s o _ clampSignedMid_signedMid, fun i => ?vmudh⟩⟩⟩
  all_goals rw [mulSet_acc_lane, mulSet_vr_lane]
  case vmudl => exact planes_upperProduct (S s o i) (T s o i)
  case vmudm => exact clampSignedMid_mixedProduct (S s o i) (T s o i)
  case vmudn => exact clampUnsignedLow_mixedProduct (S s o i) (T s o i)
  case vmudh => exact clampSignedMid_shiftedProduct (S s o i) (T s o i)

/-- Settles O29: both are the accumulating operation on the doubled product. -/
theorem vmacfVmacuResult : Obligations.VmacfVmacuResult := by
  obtain ⟨⟨hvmacf, hvmacu⟩, -⟩ := multiplyAccumulate_decode
  exact ⟨hvmacf, hvmacu, fun s o =>
    ⟨⟨_, rfl, mulAdd_multiplies s o _ clampSignedMid_signedMid⟩,
      ⟨_, rfl, mulAdd_multiplies s o _ clampUnsignedMid_unsignedMid⟩⟩⟩

/-- Settles O30: each is the accumulating operation on the addend of its VMUD instruction; VMADH's is a multiple of 2^16. -/
theorem vmadResult : Obligations.VmadResult := by
  obtain ⟨-, hvmadl, hvmadm, hvmadn, hvmadh⟩ := multiplyAccumulate_decode
  refine ⟨hvmadl, hvmadm, hvmadn, hvmadh, fun s o =>
    ⟨⟨_, rfl, mulAdd_multiplies s o _ clampUnsignedLow_unsignedLow⟩,
      ⟨_, rfl, mulAdd_multiplies s o _ clampSignedMid_signedMid⟩,
      ⟨_, rfl, mulAdd_multiplies s o _ clampUnsignedLow_unsignedLow⟩,
      ⟨_, rfl, mulAdd_multiplies s o _ clampSignedMid_signedMid, fun i => ?vmadh⟩⟩⟩
  rw [mulAdd_eq, mulSet_acc_lane]
  exact planes_toInt_add_mul_two_pow s.acc[i] (prodSS s o i)

end Sys2Proof.Machine

/-!
Compare and select (45_compare_select.md R190 to R197). Every compare selects a lane and sets its flag bits: the four select
compares are one shared operation on four masks, the three clip compares another on three functions of one lane. The bits of
each are read once, by lane; what a rule says of a lane is then a fact about two sources and the lane's old flag bits.
-/

namespace Sys2Proof

open Sys2Proof.Claims

/-- The words of the select compares (R76). -/
theorem selectCompare_decode :
    (decodesV 0x20 .vlt ∧ decodesV 0x23 .vge) ∧ decodesV 0x21 .veq ∧ decodesV 0x22 .vne := by
  and_intros <;>
    exact decodesV_of_fields (by decide) fun iw hop hco hfunct => by simp [decode, decodeV, hop, hco, hfunct]

/-- The words of the clip compares (R76). -/
theorem clip_decode : decodesV 0x24 .vcl ∧ decodesV 0x25 .vch ∧ decodesV 0x26 .vcr := by
  and_intros <;>
    exact decodesV_of_fields (by decide) fun iw hop hco hfunct => by simp [decode, decodeV, hop, hco, hfunct]

end Sys2Proof

namespace Sys2Proof.Machine

open Sys2Proof.Claims

/-- The selection writes the same lane to the register and to `ACC_LO`, whatever is then done to the flags (R190). -/
theorem select_selects (s : State) (o : V3) (r : LaneIx → Lane) (vco vcc : BitVec 16) (vce : BitVec 8) :
    let t := { s.select o.vd r with vco, vcc, vce }
    selects s t o fun i => t.vr[o.vd][i] := by
  refine ⟨fun i => ⟨rfl, ?low⟩, upperKept_setAccLo s r, fun _ hq => (s.setAccLo r).setLanes_other r hq, ⟨rfl, rfl, rfl⟩,
    fun _ => rfl, ⟨rfl, rfl, rfl⟩, rfl⟩
  exact (s.setAccLo_accLo r i).trans ((s.setAccLo r).setLanes_lane o.vd r i).symm

/-! ## The select compares -/

section SelectCompare
variable (s : State) (o : V3) (mask : LaneIx → Bool) (i : LaneIx)

@[simp] theorem selectCompare_lane :
    (selectCompare o mask s).vr[o.vd][i] = if mask i then S s o i else T s o i := State.setLanes_lane _ o.vd _ i

@[simp] theorem selectCompare_le : le (selectCompare o mask s) i = mask i := packFlags_low _ _ i

@[simp] theorem selectCompare_ge : ge (selectCompare o mask s) i = false := packFlags_high _ _ i

variable {mask}

theorem selectCompare_selectCompares {M : LaneIx → Prop} (h : ∀ i, mask i = true ↔ M i) :
    selectCompares s (selectCompare o mask s) o M := by
  refine ⟨select_selects .., fun i => ⟨fun hM => ?selected, fun hM => ?other, ?le, selectCompare_ge s o mask i⟩, rfl, rfl⟩
  case selected => rw [selectCompare_lane, if_pos ((h i).mpr hM)]
  case other => rw [selectCompare_lane, if_neg (mt (h i).mp hM)]
  case le => rw [selectCompare_le, h]

end SelectCompare

section Selected
variable {s t u : State} {o : V3} {M N : LaneIx → Prop} {i : LaneIx}

/-- Two compares with complementary masks select different sources (R190). -/
theorem selectedLanes_cases (ht : selectCompares s t o M) (hu : selectCompares s u o N) (h : N i ↔ ¬M i) :
    (M i ∧ t.vr[o.vd][i] = S s o i ∧ u.vr[o.vd][i] = T s o i)
      ∨ (¬M i ∧ t.vr[o.vd][i] = T s o i ∧ u.vr[o.vd][i] = S s o i) := by
  obtain ⟨-, ht, -⟩ := ht
  obtain ⟨-, hu, -⟩ := hu
  obtain ⟨hS, hT, -⟩ := ht i
  obtain ⟨hS', hT', -⟩ := hu i
  by_cases hM : M i
  · exact .inl ⟨hM, hS hM, hT' fun hN => h.mp hN hM⟩
  · exact .inr ⟨hM, hT hM, hS' (h.mpr hM)⟩

/-- And they leave complementary bits in `VCC.le` (R193, R194). -/
theorem le_eq_not_le_of_masks (ht : selectCompares s t o M) (hu : selectCompares s u o N) (h : N i ↔ ¬M i) :
    le u i = !le t i := by
  obtain ⟨-, ht, -⟩ := ht
  obtain ⟨-, hu, -⟩ := hu
  obtain ⟨-, -, hle, -⟩ := ht i
  obtain ⟨-, -, hle', -⟩ := hu i
  rw [Bool.eq_iff_iff, hle', h, ← hle, Bool.not_eq_true', Bool.not_eq_true]

end Selected

/-! ## The four masks, and the lane each selects

`n` and `c` are the not-equal and the carry bit that decide between equal sources. -/

section Masks
variable (a b : Lane) (n c : Bool)

theorem ltMask_iff : (decide (a.toInt < b.toInt) || (decide (a = b) && n && c)) = true
    ↔ a.toInt < b.toInt ∨ (a = b ∧ n = true ∧ c = true) := by
  simp [and_assoc]

theorem geMask_iff : (decide (a.toInt > b.toInt) || (decide (a = b) && !(n && c))) = true
    ↔ a.toInt > b.toInt ∨ (a = b ∧ ¬(n = true ∧ c = true)) := by
  simp [-not_and, not_and_or]

theorem eqMask_iff : (decide (a = b) && !n) = true ↔ a = b ∧ n = false := by simp

theorem neMask_iff : (decide (a ≠ b) || n) = true ↔ a ≠ b ∨ n = true := by simp

/-- Of two lanes one is less or the other is, or they are equal and the flag bits decide (R191, R194). -/
theorem geMask_iff_not_ltMask (p : Prop) :
    (a.toInt > b.toInt ∨ (a = b ∧ ¬p)) ↔ ¬(a.toInt < b.toInt ∨ (a = b ∧ p)) := by
  rw [← BitVec.toInt_inj]
  by_cases hp : p
  · simp only [hp, not_true, and_true, and_false, or_false]
    omega
  · simp only [hp, not_false_iff, and_true, and_false, or_false]
    omega

theorem neMask_iff_not_eqMask : (a ≠ b ∨ n = true) ↔ ¬(a = b ∧ n = false) := by
  rw [not_and_or, Bool.not_eq_false]

variable {a b} {r r' : Lane} {p : Prop}

/-- The flag bits decide only between equal sources, so whatever they are one lane is the minimum and the other the maximum
(R191, R194). -/
theorem toInt_ltMask_lanes (h : ((a.toInt < b.toInt ∨ (a = b ∧ p)) ∧ r = a ∧ r' = b)
      ∨ (¬(a.toInt < b.toInt ∨ (a = b ∧ p)) ∧ r = b ∧ r' = a)) :
    r.toInt = min a.toInt b.toInt ∧ r'.toInt = max a.toInt b.toInt := by
  obtain ⟨hmask, rfl, rfl⟩ | ⟨hmask, rfl, rfl⟩ := h
  · have hle : r.toInt ≤ r'.toInt := hmask.elim le_of_lt fun h => (congrArg BitVec.toInt h.left).le
    exact ⟨(min_eq_left hle).symm, (max_eq_right hle).symm⟩
  · have hle : r.toInt ≤ r'.toInt := not_lt.mp fun hlt => hmask (.inl hlt)
    exact ⟨(min_eq_right hle).symm, (max_eq_left hle).symm⟩

/-- Where VEQ's mask holds the two sources are equal (R192, R193). -/
theorem eqMask_lanes (h : ((a = b ∧ p) ∧ r = a ∧ r' = b) ∨ (¬(a = b ∧ p) ∧ r = b ∧ r' = a)) : r = b ∧ r' = a := by
  obtain ⟨⟨rfl, -⟩, hr, hr'⟩ | ⟨-, hr, hr'⟩ := h
  · exact ⟨hr, hr'⟩
  · exact ⟨hr, hr'⟩

end Masks

/-! ## The clip compares -/

section Clip
variable (s : State) (o : V3) (f : LaneIx → ClipLane) (i : LaneIx)

theorem clip_selects : selects s (clip o f s) o fun i => (clip o f s).vr[o.vd][i] := select_selects ..

@[simp] theorem clip_lane : (clip o f s).vr[o.vd][i] = (f i).r := State.setLanes_lane _ o.vd _ i

@[simp] theorem clip_le : le (clip o f s) i = (f i).le := packFlags_low _ _ i

@[simp] theorem clip_ge : ge (clip o f s) i = (f i).ge := packFlags_high _ _ i

@[simp] theorem clip_carry : carry (clip o f s) i = (f i).cy := packFlags_low _ _ i

@[simp] theorem clip_notEq : notEq (clip o f s) i = (f i).ne := packFlags_high _ _ i

@[simp] theorem clip_ce : ce (clip o f s) i = (f i).ce := packHalf_bit (fun i => (f i).ce) i

variable {f}

theorem clip_vco_eq_zero (hcy : ∀ i, (f i).cy = false) (hne : ∀ i, (f i).ne = false) : (clip o f s).vco = 0#16 := by
  rw [clip_eq]
  simp only [hcy, hne, packFlags_zero]

theorem clip_vce_eq_zero (hce : ∀ i, (f i).ce = false) : (clip o f s).vce = 0#8 := by
  rw [clip_eq]
  simp only [hce, packHalf_zero]

end Clip

/-! ## One lane of VCH and VCR (R195, R197) -/

section ClipLanes
variable {a b : Lane}

theorem clipHigh_of_msb_ne (h : a.msb ≠ b.msb) :
    let x := a.toInt + b.toInt
    clipHigh a b = ⟨if x ≤ 0 then -b else a, decide (x ≤ 0), decide (b.toInt < 0), true, decide (x ≠ 0 ∧ x ≠ -1),
      decide (x = -1)⟩ := by
  simp [clipHigh, h]

theorem clipHigh_of_msb_eq (h : a.msb = b.msb) :
    let x := a.toInt - b.toInt
    clipHigh a b = ⟨if x ≥ 0 then b else a, decide (b.toInt < 0), decide (x ≥ 0), false, decide (x ≠ 0), false⟩ := by
  simp [clipHigh, h]

theorem clipReverse_of_msb_ne (h : a.msb ≠ b.msb) :
    let x := a.toInt + b.toInt + 1
    clipReverse a b = ⟨if x ≤ 0 then ~~~b else a, decide (x ≤ 0), decide (b.toInt < 0), false, false, false⟩ := by
  simp [clipReverse, h]

theorem clipReverse_of_msb_eq (h : a.msb = b.msb) :
    let x := a.toInt - b.toInt
    clipReverse a b = ⟨if x ≥ 0 then b else a, decide (b.toInt < 0), decide (x ≥ 0), false, false, false⟩ := by
  simp [clipReverse, h]

/-- A bound that is not negative and the lower bound it gives enclose the selected lane: where the signs differ the source is
negative and only the lower bound can act, where they agree only the upper one. -/
theorem toInt_clipped {low r : Lane} {k : Int} (hk : 0 ≤ k) (hb : 0 ≤ b.toInt) (hlow : low.toInt = -b.toInt - k)
    (hne : a.msb ≠ b.msb → r = if a.toInt + b.toInt + k ≤ 0 then low else a)
    (heq : a.msb = b.msb → r = if a.toInt - b.toInt ≥ 0 then b else a) :
    r.toInt = max (-b.toInt - k) (min b.toInt a.toInt) := by
  have hmsb : b.msb = false := by simpa [BitVec.msb_eq_toInt] using hb
  rw [hmsb] at hne heq
  by_cases ha : a.toInt < 0
  · rw [hne (by simpa [BitVec.msb_eq_toInt] using ha)]
    split_ifs <;> omega
  · rw [heq (by simpa [BitVec.msb_eq_toInt] using ha)]
    split_ifs <;> omega

/-- The one's complement is one below the negation (R197). -/
theorem toInt_not_eq (b : Lane) : (~~~b).toInt = -b.toInt - 1 := by
  have hnot : (~~~b).toNat = 2 ^ 16 - 1 - b.toNat := BitVec.toNat_not
  rw [BitVec.toInt_eq_toNat_cond, BitVec.toInt_eq_toNat_cond, hnot]
  split_ifs <;> omega

theorem toInt_clipHigh_r (hb : 0 ≤ b.toInt) : (clipHigh a b).r.toInt = max (-b.toInt) (min b.toInt a.toInt) := by
  have hneg : (-b).toInt = -b.toInt := BitVec.toInt_neg_eq_of_msb (by simpa [BitVec.msb_eq_toInt] using hb)
  rw [← sub_zero (-b.toInt)]
  refine toInt_clipped le_rfl hb (by rw [hneg, sub_zero]) (fun h => ?differ) fun h => ?agree
  case differ => rw [clipHigh_of_msb_ne h, add_zero]
  case agree => rw [clipHigh_of_msb_eq h]

theorem toInt_clipReverse_r (hb : 0 ≤ b.toInt) :
    (clipReverse a b).r.toInt = max (-b.toInt - 1) (min b.toInt a.toInt) := by
  refine toInt_clipped zero_le_one hb (toInt_not_eq b) (fun h => ?differ) fun h => ?agree
  case differ => rw [clipReverse_of_msb_ne h]
  case agree => rw [clipReverse_of_msb_eq h]

end ClipLanes

/-! ## One lane of VCL (R196) -/

section ClipLow
variable (a b : Lane) (le ge ne ce : Bool)

theorem clipLow_of_carry {cy : Bool} (h : cy = true) :
    let x := a.toNat + b.toNat
    let l := clipLow a b le ge cy ne ce
    l.ge = ge ∧ (ne = true → l.le = le)
      ∧ (ne = false → ce = true → (l.le = true ↔ x % 2 ^ 16 = 0 ∨ x < 2 ^ 16))
      ∧ (ne = false → ce = false → (l.le = true ↔ x % 2 ^ 16 = 0 ∧ x < 2 ^ 16))
      ∧ l.r = if l.le then -b else a := by
  subst h
  refine ⟨rfl, ?kept, ?extended, ?plain, rfl⟩
  case kept => rintro rfl; rfl
  case extended => rintro rfl rfl; simp [clipLow]
  case plain => rintro rfl rfl; simp [clipLow]

theorem clipLow_of_noCarry {cy : Bool} (h : cy = false) :
    let l := clipLow a b le ge cy ne ce
    l.le = le ∧ (ne = true → l.ge = ge) ∧ (ne = false → (l.ge = true ↔ a.toNat ≥ b.toNat))
      ∧ l.r = if l.ge then b else a := by
  subst h
  refine ⟨rfl, ?kept, ?compared, rfl⟩
  case kept => rintro rfl; rfl
  case compared => rintro rfl; simp [clipLow]

end ClipLow

/-! ## The obligations of compare and select -/

/-- Settles O31: both are the select operation, on masks that are complements and order the two sources. -/
theorem vltVgeResult : Obligations.VltVgeResult := by
  obtain ⟨⟨hvlt, hvge⟩, -⟩ := selectCompare_decode
  refine ⟨hvlt, hvge, fun s o => ?_⟩
  have hlt := selectCompare_selectCompares s o fun i => ltMask_iff (S s o i) (T s o i) (notEq s i) (carry s i)
  have hge := selectCompare_selectCompares s o fun i => geMask_iff (S s o i) (T s o i) (notEq s i) (carry s i)
  exact ⟨_, _, rfl, rfl, hlt, hge, fun i => le_eq_not_le_of_masks hlt hge (geMask_iff_not_ltMask ..),
    fun _ i => toInt_ltMask_lanes (selectedLanes_cases hlt hge (geMask_iff_not_ltMask ..))⟩

/-- Settles O32: both are the select operation, on masks that are complements; VEQ's holds only where the two
sources are equal. -/
theorem veqVneResult : Obligations.VeqVneResult := by
  obtain ⟨-, hveq, hvne⟩ := selectCompare_decode
  refine ⟨hveq, hvne, fun s o => ?_⟩
  have heq := selectCompare_selectCompares s o fun i => eqMask_iff (S s o i) (T s o i) (notEq s i)
  have hne := selectCompare_selectCompares s o fun i => neMask_iff (S s o i) (T s o i) (notEq s i)
  exact ⟨_, _, rfl, rfl, heq, hne, fun i => ⟨le_eq_not_le_of_masks heq hne (neMask_iff_not_eqMask ..),
    eqMask_lanes (selectedLanes_cases heq hne (neMask_iff_not_eqMask ..))⟩⟩

/-- Settles O33: the clip operation on the lane function of VCH, by the signs of the lane's sources. -/
theorem vchResult : Obligations.VchResult := by
  obtain ⟨-, hvch, -⟩ := clip_decode
  refine ⟨hvch, fun s o => ⟨_, rfl, clip_selects .., fun i h => ?differ, fun i h => ?agree, fun i hb => ?clipped⟩⟩
  case clipped =>
    rw [clip_lane]
    exact toInt_clipHigh_r hb
  all_goals rw [clip_le, clip_ge, clip_carry, clip_ce, clip_notEq, clip_lane]
  case differ =>
    have hlane : clipHigh (s.srcS o.vs i) (s.srcT o.vt o.e i) = _ := clipHigh_of_msb_ne h
    rw [hlane]
    exact ⟨decide_eq_true_iff, decide_eq_true_iff, rfl, decide_eq_true_iff, decide_eq_true_iff, rfl⟩
  case agree =>
    have hlane : clipHigh (s.srcS o.vs i) (s.srcT o.vt o.e i) = _ := clipHigh_of_msb_eq h
    rw [hlane]
    exact ⟨decide_eq_true_iff, decide_eq_true_iff, rfl, rfl, decide_eq_true_iff, rfl⟩

/-- Settles O34: the clip operation on the lane function of VCL, by the lane's old carry bit. -/
theorem vclResult : Obligations.VclResult := by
  obtain ⟨hvcl, -⟩ := clip_decode
  refine ⟨hvcl, fun s o => ⟨_, rfl, clip_selects .., clip_vco_eq_zero _ _ (fun _ => clipLow_cy ..) fun _ => clipLow_ne ..,
    clip_vce_eq_zero _ _ fun _ => clipLow_ce .., fun i h => ?carry, fun i h => ?noCarry⟩⟩
  all_goals rw [clip_le, clip_ge, clip_lane]
  case carry => exact clipLow_of_carry (S s o i) (T s o i) (le s i) (ge s i) (notEq s i) (ce s i) h
  case noCarry => exact clipLow_of_noCarry (S s o i) (T s o i) (le s i) (ge s i) (notEq s i) (ce s i) h

/-- Settles O35: the clip operation on the lane function of VCR, by the signs of the lane's sources. -/
theorem vcrResult : Obligations.VcrResult := by
  obtain ⟨-, -, hvcr⟩ := clip_decode
  refine ⟨hvcr, fun s o => ⟨_, rfl, clip_selects .., clip_vco_eq_zero _ _ (fun _ => clipReverse_cy ..)
    fun _ => clipReverse_ne .., clip_vce_eq_zero _ _ fun _ => clipReverse_ce .., fun i h => ?differ, fun i h => ?agree,
    fun i hb => ?clipped⟩⟩
  case clipped =>
    rw [clip_lane]
    exact toInt_clipReverse_r hb
  all_goals rw [clip_le, clip_ge, clip_lane]
  case differ =>
    have hlane : clipReverse (s.srcS o.vs i) (s.srcT o.vt o.e i) = _ := clipReverse_of_msb_ne h
    rw [hlane]
    exact ⟨decide_eq_true_iff, decide_eq_true_iff, rfl⟩
  case agree =>
    have hlane : clipReverse (s.srcS o.vs i) (s.srcT o.vt o.e i) = _ := clipReverse_of_msb_eq h
    rw [hlane]
    exact ⟨decide_eq_true_iff, decide_eq_true_iff, rfl⟩

end Sys2Proof.Machine

/-!
Merge, absolute value, moves and no-operations (46_merge_abs_move.md R201 to R206). What the words and the written lanes are is
said per instruction; what the instructions leave unchanged is said once for each shape of write: a register, `ACC_LO` and a
register, `ACC_LO` and one lane.
-/

namespace Sys2Proof

open Sys2Proof.Claims

/-- A single-lane word reads the low three bits of the field that a three-register word reads as `vs` (R72). -/
theorem V1.ofWord_eq_ofWord_V3 (w : Word) :
    V1.ofWord w = ⟨(V3.ofWord w).vd, Fin.ofNat 8 (V3.ofWord w).vs.val, (V3.ofWord w).vt, (V3.ofWord w).e⟩ := by
  have hde : field w 11 3 = field w 11 5 % 32 % 8 := by
    simp only [field]
    omega
  simp only [V1.ofWord, V3.ofWord, regField, hde, V1.mk.injEq, Fin.ext_iff, Fin.val_ofNat, Nat.mod_mod, and_self]

/-- The words of a single-lane function code decode to the instruction that the code chooses, whatever bits 15:14 hold (R72). -/
theorem decodesV1_of_fields {f : Nat} {i : V1 → Instr} (hf : f < 64)
    (hi : ∀ iw, field iw 26 6 = 0x12 → field iw 25 1 = 1 → field iw 0 6 = f → decode iw = .ok (i (V1.ofWord iw))) :
    decodesV1 f i := fun o high => by
  have hV3 : decodesV f fun v => i ⟨v.vd, Fin.ofNat 8 v.vs.val, v.vt, v.e⟩ :=
    decodesV_of_fields hf fun iw hop hco hfunct => V1.ofWord_eq_ofWord_V3 iw ▸ hi iw hop hco hfunct
  have hde : Fin.ofNat 8 (8 * high.val + o.de.val) = o.de := Fin.ext (by rw [Fin.val_ofNat]; omega)
  rw [wordV1, hV3]
  exact congrArg (fun de => Except.ok (i ⟨o.vd, de, o.vt, o.e⟩)) hde

/-- The words of VMRG and VABS (R76). -/
theorem mergeAbs_decode : decodesV 0x27 .vmrg ∧ decodesV 0x13 .vabs := by
  and_intros <;>
    exact decodesV_of_fields (by decide) fun iw hop hco hfunct => by simp [decode, decodeV, hop, hco, hfunct]

/-- The words of VMOV (R76). -/
theorem move_decode : decodesV1 0x33 .vmov :=
  decodesV1_of_fields (by decide) fun iw hop hco hfunct => by simp [decode, decodeV, hop, hco, hfunct]

/-- The words of VSAR, which reads two of a three-register word's operands (R204). -/
theorem readPlane_decode : decodesV 0x1D fun o => .vsar ⟨o.vd, o.e⟩ :=
  decodesV_of_fields (by decide) fun iw hop hco hfunct => by
    simp [decode, decodeV, VPlane.ofWord, V3.ofWord, hop, hco, hfunct]

/-- The words of VNOP and VNULL, which read none of them (R205, R206). -/
theorem nops_decode : (decodesV 0x37 fun _ => .vnop) ∧ decodesV 0x3F fun _ => .vnull := by
  and_intros <;>
    exact decodesV_of_fields (by decide) fun iw hop hco hfunct => by simp [decode, decodeV, hop, hco, hfunct]

end Sys2Proof

namespace Sys2Proof.Machine

open Sys2Proof.Claims

/-! ## The shapes of write -/

section Writes
variable (s : State) (vd : Fin 32) (f g : LaneIx → Lane)

/-- What a write of a whole register leaves unchanged. -/
theorem setLanes_frame :
    let t := s.setLanes vd g
    accKept s t ∧ vrOnly s t vd ∧ flagsKept s t ∧ latchesKept s t ∧ memoryKept s t ∧ portKept s t :=
  ⟨fun _ => rfl, fun _ hq => s.setLanes_other g hq, ⟨rfl, rfl, rfl⟩, ⟨rfl, rfl, rfl⟩, fun _ => rfl, ⟨rfl, rfl, rfl⟩, rfl⟩

/-- What a write of `ACC_LO` and a whole register leaves unchanged. -/
theorem setLanes_setAccLo_frame :
    let t := (s.setAccLo f).setLanes vd g
    upperKept s t ∧ vrOnly s t vd ∧ flagsKept s t ∧ latchesKept s t ∧ memoryKept s t ∧ portKept s t :=
  have ⟨_, hrest⟩ := setLanes_frame (s.setAccLo f) vd g
  ⟨upperKept_setAccLo s f, hrest⟩

/-- The low plane after it. -/
theorem lo_setLanes_setAccLo (i : LaneIx) : lo ((s.setAccLo f).setLanes vd g).acc[i] = f i := s.setAccLo_accLo f i

/-- A single-lane instruction's write of `ACC_LO` and one lane (R203, R214). -/
theorem setLane_setAccLo_movesLane (o : V1) (x : Lane) :
    movesLane s ((s.setAccLo (s.srcT o.vt o.e)).setLane o.vd o.de x) o x :=
  ⟨State.setLane_lane _ o.vd o.de x, s.setAccLo_accLo (s.srcT o.vt o.e), upperKept_setAccLo s _,
    ⟨fun _ hq => State.setLane_other _ o.de x hq, fun _ hj => State.setLane_otherLane _ o.vd x hj⟩, ⟨rfl, rfl, rfl⟩,
    fun _ => rfl, ⟨rfl, rfl, rfl⟩, rfl⟩

end Writes

/-! ## The two results of VABS, by the sign of the first source (R202) -/

section Abs
variable {a b : Lane}

theorem absLow_of_neg (ha : a.toInt < 0) : absLow a b = BitVec.ofInt 16 (-b.toInt) := if_pos ha

theorem toNat_absLow_of_neg (ha : a.toInt < 0) : ((absLow a b).toNat : Int) = -b.toInt % 2 ^ 16 := by
  rw [absLow_of_neg ha, toNat_ofInt_eq_emod]

/-- The negation of the least number wraps to itself. -/
theorem absLow_of_least (ha : a.toInt < 0) (hb : b = 0x8000#16) : absLow a b = 0x8000#16 := by
  subst hb
  exact absLow_of_neg ha

theorem absLow_of_zero (ha : a.toInt = 0) : absLow a b = 0x0000#16 := by
  have hzero : a = 0#16 := BitVec.toInt_inj.mp (ha.trans BitVec.toInt_zero.symm)
  rw [absLow, if_neg (by omega), if_pos hzero]

theorem absLow_of_pos (ha : a.toInt > 0) : absLow a b = b := by
  have hne : a ≠ 0#16 := by
    rintro rfl
    exact absurd ha (by decide)
  rw [absLow, if_neg (by omega), if_neg hne]

variable (minWraps : Bool)

/-- The two results differ at the least number under a negative source only. -/
theorem absResult_eq_absLow (h : ¬(a.toInt < 0 ∧ b = 0x8000#16)) : absResult minWraps a b = absLow a b := if_neg h

theorem absResult_of_nonneg (ha : 0 ≤ a.toInt) : absResult minWraps a b = absLow a b :=
  absResult_eq_absLow minWraps fun h => absurd h.1 (by omega)

theorem absResult_of_least (ha : a.toInt < 0) (hb : b = 0x8000#16) :
    absResult minWraps a b = if minWraps then 0x8000#16 else 0x7FFF#16 := if_pos ⟨ha, hb⟩

end Abs

/-! ## The plane VSAR reads (R204) -/

section Plane
variable (a : AccLane)

theorem planeOf_eight : planeOf 8 a = accHi a := rfl

theorem planeOf_nine : planeOf 9 a = accMd a := rfl

theorem planeOf_ten : planeOf 10 a = accLo a := rfl

theorem planeOf_other {e : Fin 16} (h8 : e ≠ 8) (h9 : e ≠ 9) (h10 : e ≠ 10) : planeOf e a = 0x0000#16 :=
  (if_neg (Fin.val_ne_of_ne h8)).trans ((if_neg (Fin.val_ne_of_ne h9)).trans (if_neg (Fin.val_ne_of_ne h10)))

end Plane

/-! ## The obligations of merge, absolute value, moves and no-operations -/

/-- Settles O38: the lane that `VCC.le` chooses goes to the register and to `ACC_LO`. -/
theorem vmrgResult : Obligations.VmrgResult := by
  obtain ⟨hvmrg, -⟩ := mergeAbs_decode
  refine ⟨hvmrg, fun s o => ⟨_, rfl, fun i => ?lane, setLanes_setAccLo_frame ..⟩⟩
  rw [State.setLanes_lane, lo_setLanes_setAccLo]
  exact ⟨rfl, rfl⟩

/-- Settles O39: the two results of a lane, by the sign of its first source and, under a negative one, by whether the second is
the least number. -/
theorem vabsResult : Obligations.VabsResult := by
  obtain ⟨-, hvabs⟩ := mergeAbs_decode
  refine ⟨hvabs, fun s o => ⟨_, rfl, fun i => ?lane, setLanes_setAccLo_frame ..⟩⟩
  rw [State.setLanes_lane, lo_setLanes_setAccLo]
  refine ⟨fun hneg => ⟨toNat_absLow_of_neg hneg, fun hT => ?other, fun hT => ?least⟩, fun hzero => ?zero, fun hpos => ?pos⟩
  case other => exact absResult_eq_absLow _ fun h => hT h.2
  case least => exact ⟨absLow_of_least hneg hT, absResult_of_least _ hneg hT⟩
  case zero => exact ⟨absLow_of_zero hzero, (absResult_of_nonneg _ hzero.ge).trans (absLow_of_zero hzero)⟩
  case pos => exact ⟨absLow_of_pos hpos, (absResult_of_nonneg _ hpos.le).trans (absLow_of_pos hpos)⟩

/-- Settles O40: the single-lane write, of the selected operand's own lane. -/
theorem vmovResult : Obligations.VmovResult :=
  ⟨move_decode, fun s o => ⟨_, rfl, setLane_setAccLo_movesLane s o _, rfl, rfl, rfl⟩⟩

/-- Settles O41: the register takes the plane that the element names. -/
theorem vsarResult : Obligations.VsarResult := by
  refine ⟨readPlane_decode, fun s o => ⟨_, rfl, fun i => ?plane, setLanes_frame ..⟩⟩
  rw [State.setLanes_lane]
  exact ⟨fun h => h ▸ planeOf_eight _, fun h => h ▸ planeOf_nine _, fun h => h ▸ planeOf_ten _, planeOf_other _⟩

/-- Settles O42: both are decoded whatever the fields hold, and the operation of each is to complete. -/
theorem nopsChangeNothing : Obligations.NopsChangeNothing := by
  obtain ⟨hvnop, hvnull⟩ := nops_decode
  exact ⟨hvnop, hvnull, fun _ => ⟨rfl, rfl⟩⟩

end Sys2Proof.Machine

/-!
The reciprocal unit (47_reciprocal.md R211 to R221): the two tables entry by entry, the reciprocal function in arithmetic, and
the six instructions, which are two shared operations.
-/

namespace Sys2Proof

open Sys2Proof.Claims

/-! ## The printed tables (R212, R213) -/

theorem entries_rcpRom : entries Config.recommended.rcpRom = rcpEntries := by decide +kernel

theorem entries_rsqRom : entries Config.recommended.rsqRom = rsqEntries := by decide +kernel

/-- What holds of the printed entries, each with its index, holds of the table. -/
theorem forall_rom_of_zipIdx {rom : Vector Lane 512} {l : List Nat} (hrom : entries rom = l) {P : Nat → Nat → Prop}
    (h : ∀ p ∈ l.zipIdx, P p.2 p.1) (i : Fin 512) : P i.val rom[i].toNat := by
  subst hrom
  refine h (rom[i].toNat, i.val) (List.mk_mem_zipIdx_iff_getElem?.mpr ?_)
  simp [entries]

/-- Entry `i` of `RCP_ROM` by the rule (R212). -/
def rcpEntry (i : Nat) : Nat := if i = 0 then 0xFFFF else ((2 ^ 34 / (i + 512) + 1) >>> 8) &&& 0xFFFF

theorem rcpEntries_formula : ∀ p ∈ rcpEntries.zipIdx, p.1 = rcpEntry p.2 := by decide +kernel

theorem toNat_rcpRom (i : Fin 512) : Config.recommended.rcpRom[i].toNat = rcpEntry i.val :=
  forall_rom_of_zipIdx (P := fun i r => r = rcpEntry i) entries_rcpRom rcpEntries_formula i

/-- The `a` of R213. -/
def rsqRadicand (i : Nat) : Nat := if i % 2 = 1 then (i + 512) / 2 else i + 512

/-- `r` is the root of `2^42 / a`, from below. -/
abbrev BoundsRoot (a r : Nat) : Prop := a * r ^ 2 < 2 ^ 42 ∧ 2 ^ 42 ≤ a * (r + 1) ^ 2

/-- Every entry with its leading one is such a root: a check that needs no search for `b`. -/
theorem rsqEntries_boundsRoot : ∀ p ∈ rsqEntries.zipIdx, BoundsRoot (rsqRadicand p.2) (0x10000 + p.1) := by
  decide +kernel

theorem rsqRom_boundsRoot (i : Fin 512) :
    BoundsRoot (rsqRadicand i.val) (0x10000 + Config.recommended.rsqRom[i].toNat) :=
  forall_rom_of_zipIdx (P := fun i r => BoundsRoot (rsqRadicand i) (0x10000 + r)) entries_rsqRom rsqEntries_boundsRoot i

/-- A `b` whose own square is too small is at most every `c` whose successor's square is large enough. -/
theorem le_of_mul_sq_lt {a b c n : Nat} (hb : a * b ^ 2 < n) (hc : n ≤ a * (c + 1) ^ 2) : b ≤ c := by
  by_contra hlt
  have : a * (c + 1) ^ 2 ≤ a * b ^ 2 := Nat.mul_le_mul_left a (Nat.pow_le_pow_left (by omega) 2)
  omega

/-- The smallest `b` of R213 is one of the two numbers of which `r` is the half. -/
theorem exists_smallest_root {a r : Nat} (hr : 2 ^ 16 ≤ r) (hroot : BoundsRoot a r) :
    ∃ b : Nat, 2 ^ 17 ≤ b ∧ a * (b + 1) ^ 2 ≥ 2 ^ 44
      ∧ (∀ c : Nat, 2 ^ 17 ≤ c → a * (c + 1) ^ 2 ≥ 2 ^ 44 → b ≤ c) ∧ b / 2 = r := by
  obtain ⟨hlow, hhigh⟩ := hroot
  rcases le_or_gt (2 ^ 44) (a * (2 * r + 1) ^ 2) with h | h
  case inl =>
    have hbelow : a * (2 * r) ^ 2 < 2 ^ 44 := by
      rw [mul_pow, Nat.mul_left_comm]
      omega
    exact ⟨2 * r, by omega, h, fun c _ => le_of_mul_sq_lt hbelow, by omega⟩
  case inr =>
    have habove : 2 ^ 44 ≤ a * (2 * r + 1 + 1) ^ 2 := by
      rw [show 2 * r + 1 + 1 = 2 * (r + 1) by omega, mul_pow, Nat.mul_left_comm]
      omega
    exact ⟨2 * r + 1, by omega, habove, fun c _ => le_of_mul_sq_lt h, by omega⟩

/-! ## The check values -/

/-- One entry of the CRC-32, high byte first. -/
def crcEntry (c x : Nat) : Nat := crcByte (crcByte c (x / 256)) (x % 256)

theorem crc32_eq_foldl (l : List Nat) : crc32 l = l.foldl crcEntry 0xFFFFFFFF ^^^ 0xFFFFFFFF := rfl

/-- The register of the CRC after each part of the reciprocal table: one lemma would nest too deep for the kernel. -/
theorem crcEntry_rcpParts :
    rcpPart0.foldl crcEntry 0xFFFFFFFF = 1421425576 ∧ rcpPart1.foldl crcEntry 1421425576 = 3138349682
      ∧ rcpPart2.foldl crcEntry 3138349682 = 3141665791 ∧ rcpPart3.foldl crcEntry 3141665791 = 2031012955
      ∧ rcpPart4.foldl crcEntry 2031012955 = 3432294661 ∧ rcpPart5.foldl crcEntry 3432294661 = 3827520338
      ∧ rcpPart6.foldl crcEntry 3827520338 = 2095216256 ∧ rcpPart7.foldl crcEntry 2095216256 = 3519028890 := by
  and_intros <;> decide +kernel

/-- The same of the square-root table. -/
theorem crcEntry_rsqParts :
    rsqPart0.foldl crcEntry 0xFFFFFFFF = 2850966091 ∧ rsqPart1.foldl crcEntry 2850966091 = 2442809092
      ∧ rsqPart2.foldl crcEntry 2442809092 = 1799412975 ∧ rsqPart3.foldl crcEntry 1799412975 = 994172751
      ∧ rsqPart4.foldl crcEntry 994172751 = 4034223863 ∧ rsqPart5.foldl crcEntry 4034223863 = 1298606223
      ∧ rsqPart6.foldl crcEntry 1298606223 = 72182934 ∧ rsqPart7.foldl crcEntry 72182934 = 266674677 := by
  and_intros <;> decide +kernel

theorem crc32_rcpEntries : crc32 rcpEntries = 0x2E3FE165 := by
  obtain ⟨h0, h1, h2, h3, h4, h5, h6, h7⟩ := crcEntry_rcpParts
  rw [crc32_eq_foldl, rcpEntries]
  simp only [List.foldl_append, h0, h1, h2, h3, h4, h5, h6, h7]
  decide

theorem crc32_rsqEntries : crc32 rsqEntries = 0xF01ADE0A := by
  obtain ⟨h0, h1, h2, h3, h4, h5, h6, h7⟩ := crcEntry_rsqParts
  rw [crc32_eq_foldl, rsqEntries]
  simp only [List.foldl_append, h0, h1, h2, h3, h4, h5, h6, h7]
  decide

/-- Settles O6: every printed entry is the formula's, and the check values are those of the printed list. -/
theorem reciprocalTableValues : Obligations.ReciprocalTableValues := by
  unfold Obligations.ReciprocalTableValues
  rw [entries_rcpRom]
  refine ⟨toNat_rcpRom 0, fun i hi => ?entry, by decide +kernel, by decide +kernel, crc32_rcpEntries⟩
  exact (toNat_rcpRom i).trans (if_neg (Fin.val_ne_of_ne hi))

/-- Settles O7: the bounds on every printed entry make it the upper bits of the smallest `b`, and the check values are those of
the printed list. -/
theorem squareRootTableValues : Obligations.SquareRootTableValues := by
  unfold Obligations.SquareRootTableValues
  rw [entries_rsqRom]
  refine ⟨fun i => ?entry, by decide +kernel, by decide +kernel, crc32_rsqEntries⟩
  obtain ⟨b, hb, hlarge, hleast, hhalf⟩ := exists_smallest_root (Nat.le_add_right _ _) (rsqRom_boundsRoot i)
  refine ⟨b, hb, hlarge, hleast, ?_⟩
  rw [Nat.shiftRight_one, hhalf, Nat.and_two_pow_sub_one_eq_mod _ 16]
  omega

/-! ## Decoding (R76) -/

/-- The words of the six reciprocal instructions. -/
theorem reciprocal_decode : (decodesV1 0x30 .vrcp ∧ decodesV1 0x34 .vrsq)
    ∧ (decodesV1 0x31 .vrcpl ∧ decodesV1 0x35 .vrsql) ∧ decodesV1 0x32 .vrcph ∧ decodesV1 0x36 .vrsqh := by
  and_intros <;>
    exact decodesV1_of_fields (by decide) fun iw hop hco hfunct => by simp [decode, decodeV, hop, hco, hfunct]

end Sys2Proof

namespace Sys2Proof.Machine

open Sys2Proof.Claims

/-! ## The reciprocal function in arithmetic (R211) -/

section Core
variable {x : Word}

/-- The leading one stands below the leading zeros. -/
theorem leadingZeros_bounds {n : Nat} {d : Word} (hpos : d.toNat ≠ 0) (hlt : d.toNat < 2 ^ n) :
    leadingZeros n d < n ∧ 2 ^ (n - 1 - leadingZeros n d) ≤ d.toNat ∧ d.toNat < 2 ^ (n - leadingZeros n d) := by
  induction n with
  | zero => omega
  | succ n ih =>
    rw [leadingZeros]
    split_ifs with hbit
    · exact ⟨by omega, Nat.ge_two_pow_of_testBit hbit, hlt⟩
    · have hlow : d.toNat < 2 ^ n := by
        by_contra hge
        exact hbit (Nat.testBit_of_two_pow_le_and_two_pow_add_one_gt (by omega) hlt)
      obtain ⟨hn, hlower, hupper⟩ := ih hlow
      have hexp : n + 1 - (leadingZeros n d + 1) = n - leadingZeros n d := by omega
      have hexp' : n + 1 - 1 - (leadingZeros n d + 1) = n - 1 - leadingZeros n d := by omega
      rw [hexp, hexp']
      exact ⟨by omega, hlower, hupper⟩

theorem rcpMask_of_neg (h : x.toInt < 0) : rcpMask x = BitVec.allOnes 32 :=
  if_pos (BitVec.msb_eq_toInt.trans (decide_eq_true h))

theorem rcpMask_of_nonneg (h : 0 ≤ x.toInt) : rcpMask x = 0#32 :=
  if_neg (by rw [BitVec.msb_eq_toInt, decide_eq_true_iff]; omega)

/-- The magnitude is `x`, its negation above -32768, its complement from there down. -/
theorem toNat_rcpMagnitude (x : Word) : (rcpMagnitude x).toNat =
    if 0 ≤ x.toInt then x.toInt.toNat else if -32768 < x.toInt then (-x.toInt).toNat else (-x.toInt - 1).toNat := by
  have hx := BitVec.toInt_eq_toNat_cond x
  unfold rcpMagnitude
  split_ifs with hsmall hpos hpos
  · rw [rcpMask_of_nonneg hpos, BitVec.xor_zero, BitVec.sub_zero]
    omega
  · rw [rcpMask_of_neg (by omega), BitVec.xor_allOnes, BitVec.toNat_sub, BitVec.toNat_not, BitVec.toNat_allOnes]
    omega
  · omega
  · rw [rcpMask_of_neg (by omega), BitVec.xor_allOnes, BitVec.toNat_not]
    omega

/-- The magnitude vanishes only for zero. -/
theorem rcpMagnitude_ne_zero (h : x.toInt ≠ 0) : rcpMagnitude x ≠ 0#32 := by
  rw [← BitVec.toNat_ne_iff_ne, toNat_rcpMagnitude, BitVec.toNat_zero]
  split_ifs <;> omega

/-- Masking and shifting keeps the nine bits below the leading one. -/
theorem val_rcpIndex (d : Word) (shift : Nat) : (rcpIndex d shift).val = d.toNat * 2 ^ shift / 2 ^ 22 % 512 := by
  have hnine : ∀ n : Nat, ((n &&& 0x7FC00000) >>> 22) = n / 2 ^ 22 % 512 := fun n => by
    rw [Nat.shiftRight_and_distrib, Nat.shiftRight_eq_div_pow]
    exact Nat.and_two_pow_sub_one_eq_mod _ 9
  rw [rcpIndex, Fin.val_ofNat, BitVec.toNat_ushiftRight, BitVec.toNat_and, BitVec.toNat_shiftLeft, Nat.shiftLeft_eq]
  exact (congrArg (· % 512) (hnine _)).trans (by omega)

/-- The square root's table entry: the index's upper bits, then the parity of the shift. -/
theorem rsqIndex_eq {index : Nat} (h : index < 512) (shift : Nat) :
    (index &&& 0x1FE) ||| (shift &&& 1) = index / 2 * 2 + shift % 2 := by
  have hhalf : (index &&& 0x1FE) / 2 = index / 2 % 2 ^ 8 := Nat.and_div_two.trans (Nat.and_two_pow_sub_one_eq_mod _ 8)
  have heven : (index &&& 0x1FE) % 2 ^ 1 = 0 := by rw [Nat.and_mod_two_pow, Nat.and_zero]
  have hindex : (index &&& 0x1FE) = 2 ^ 1 * (index / 2) := by omega
  rw [hindex, Nat.and_one_is_mod, ← Nat.two_pow_add_eq_or_of_lt (Nat.mod_lt shift Nat.two_pos)]
  omega

/-- An entry with its leading one, scaled. -/
theorem toNat_scaled (rom : Lane) (k : Nat) :
    (((0x10000#32 ||| rom.zeroExtend 32) <<< 14) >>> k).toNat = (0x10000 + rom.toNat) * 2 ^ 14 / 2 ^ k := by
  have hone : (0x10000#32 ||| rom.zeroExtend 32).toNat = 0x10000 + rom.toNat := by
    rw [BitVec.toNat_or, BitVec.toNat_setWidth_of_le (by decide)]
    exact (Nat.two_pow_add_eq_or_of_lt rom.isLt 1).symm
  rw [BitVec.toNat_ushiftRight, BitVec.toNat_shiftLeft, hone, Nat.shiftLeft_eq, Nat.shiftRight_eq_div_pow,
    Nat.mod_eq_of_lt (by omega)]

/-- The positive result: the table entry scaled by the count of leading zeros. -/
theorem toNat_rcpScaled (c : Config) {d : Word} {shift index : Nat} (hshift : leadingZeros 32 d = shift)
    (hindex : (rcpIndex d shift).val = index) (rsq : Bool) :
    (rcpScaled c d rsq).toNat =
      if rsq then (0x10000 + (c.rsqRom[Fin.ofNat 512 (index / 2 * 2 + shift % 2)]).toNat) * 2 ^ 14 / 2 ^ ((31 - shift) / 2)
      else (0x10000 + (c.rcpRom[Fin.ofNat 512 index]).toNat) * 2 ^ 14 / 2 ^ (31 - shift) := by
  subst hshift hindex
  cases rsq with
  | false =>
    simp only [Fin.ofNat_val_eq_self]
    exact toNat_scaled ..
  | true =>
    simp only [← rsqIndex_eq (Fin.isLt _)]
    exact toNat_scaled ..

/-- The mask takes the one's complement of the result for a negative input. -/
theorem toNat_xor_rcpMask (r : Word) :
    (r ^^^ rcpMask x).toNat = if x.toInt < 0 then 2 ^ 32 - 1 - r.toNat else r.toNat := by
  split_ifs with hneg
  · rw [rcpMask_of_neg hneg, BitVec.xor_allOnes, BitVec.toNat_not]
  · rw [rcpMask_of_nonneg (by omega), BitVec.xor_zero]

/-! ## The cases of the reciprocal function -/

theorem rcpCore_zero (c : Config) (rsq : Bool) : rcpCore c 0#32 rsq = 0x7FFFFFFF#32 := if_pos (by decide)

theorem rcpCore_least (c : Config) (rsq : Bool) : rcpCore c 0xFFFF8000#32 rsq = 0xFFFF0000#32 :=
  (if_neg (by decide)).trans (if_pos (by decide))

theorem rcpCore_normal (c : Config) (rsq : Bool) (h0 : x.toInt ≠ 0) (hl : x.toInt ≠ -32768) :
    rcpCore c x rsq = rcpScaled c (rcpMagnitude x) rsq ^^^ rcpMask x :=
  (if_neg (rcpMagnitude_ne_zero h0)).trans (if_neg hl)

end Core

/-- Settles O43: the special inputs are two words; otherwise the magnitude is the number of the statement, its leading zeros
bound it, and the scaled entry is complemented by the mask. -/
theorem reciprocalCoreClassifiesAndScales : Obligations.ReciprocalCoreClassifiesAndScales := by
  intro c x rsq data
  have hdata : (rcpMagnitude x).toNat = data := toNat_rcpMagnitude x
  refine ⟨fun hzero => ?zero, fun hleast => ?least, fun hne => ?normal⟩
  case zero => rw [BitVec.eq_of_toInt_eq (y := 0#32) hzero, rcpCore_zero]
  case least => rw [BitVec.eq_of_toInt_eq (y := 0xFFFF8000#32) hleast, rcpCore_least]
  case normal =>
    have hpos : (rcpMagnitude x).toNat ≠ 0 := BitVec.toNat_ne_iff_ne.mpr (rcpMagnitude_ne_zero hne)
    obtain ⟨hshift, hlower, hupper⟩ := leadingZeros_bounds (n := 32) hpos (rcpMagnitude x).isLt
    refine ⟨_, hshift, hdata ▸ hlower, hdata ▸ hupper, fun hl => ?_⟩
    rw [rcpCore_normal c rsq hne hl, toNat_xor_rcpMask, toNat_rcpScaled c rfl (val_rcpIndex _ _), hdata]

/-! ## The two shared operations (R214) -/

/-- A result-producing instruction (R216, R217). -/
theorem recipResult_producesResult (s : State) (o : V1) (rsq : Bool) (x : Word) :
    producesResult s (recipResult rsq x o s) o rsq x :=
  ⟨setLane_setAccLo_movesLane s o _, rfl, rfl, rfl⟩

/-- A high-half instruction moves the pending high half out and takes the next one in (R218). -/
theorem recipHigh_movesLane (s : State) (o : V1) : movesLane s (recipHigh o s) o s.divOut :=
  setLane_setAccLo_movesLane s o _

/-! ## The instructions -/

/-- Settles O44: both are the shared operation on the sign-extended lane. -/
theorem vrcpVrsqResult : Obligations.VrcpVrsqResult := by
  obtain ⟨⟨hvrcp, hvrsq⟩, -⟩ := reciprocal_decode
  exact ⟨hvrcp, hvrsq, fun s o =>
    ⟨⟨_, rfl, recipResult_producesResult s o _ _⟩, ⟨_, rfl, recipResult_producesResult s o _ _⟩⟩⟩

/-- Settles O45: both are the shared operation on the input that `DP` chooses. -/
theorem vrcplVrsqlResult : Obligations.VrcplVrsqlResult := by
  obtain ⟨-, ⟨hvrcpl, hvrsql⟩, -⟩ := reciprocal_decode
  exact ⟨hvrcpl, hvrsql, fun s o =>
    ⟨⟨_, rfl, recipResult_producesResult s o _ _⟩, ⟨_, rfl, recipResult_producesResult s o _ _⟩⟩⟩

/-- Settles O46: both are the other shared operation. -/
theorem vrcphVrsqhResult : Obligations.VrcphVrsqhResult := by
  obtain ⟨-, -, hvrcph, hvrsqh⟩ := reciprocal_decode
  exact ⟨hvrcph, hvrsqh, fun s o => ⟨_, rfl, rfl, recipHigh_movesLane s o, rfl, rfl, rfl⟩⟩

/-- Either high-half instruction is the shared operation. -/
theorem exec_high {i : V1 → Instr} (hi : i = .vrcph ∨ i = .vrsqh) (s : State) (o : V1) :
    exec (i o) s = .next (recipHigh o s) := by
  rcases hi with rfl | rfl <;> rfl

/-- Either low-half instruction is the shared operation on the two halves where `DP` is set (R217). -/
theorem exec_low_of_dp {s : State} (hdp : s.dp = true) (o : V1) (rsq : Bool) :
    exec (if rsq then .vrsql o else .vrcpl o) s = .next (recipResult rsq (s.divIn ++ inputLane s o) o s) := by
  have hx : recipLowInput s o = s.divIn ++ inputLane s o := if_pos hdp
  cases rsq <;> exact congrArg (fun x => Host.Outcome.next (recipResult _ x o s)) hx

/-- Settles O47: the first instruction leaves `DP` set and the high half in `DIV_IN`, so the second works on both halves and
leaves in `DIV_OUT` what the third writes. -/
theorem doublePrecisionSequence : Obligations.DoublePrecisionSequence := by
  intro s a b c ia ic rsq hia hic
  exact ⟨_, _, _, exec_high hia s a, exec_low_of_dp rfl b rsq, exec_high hic _ c,
    ⟨State.setLane_lane .., State.setLane_lane ..⟩, rfl, rfl⟩

end Sys2Proof.Machine

/-!
Encoding and decoding are inverse up to the ignored bits (30_encoding.md R72 to R79, R86, R204, R232). For each operand shape one
equivalence says that a word, its ignored bits cleared, is an encoding exactly when it has the row's fields and the operands are
those read from it; the decoder's one case split and the encoder's meet in these equivalences.
-/

namespace Sys2Proof

open Sys2Proof.Claims

/-! ## Clearing the ignored bits -/

theorem and_not_zero (w : Word) : w &&& ~~~0x00000000#32 = w := by rw [BitVec.not_zero, BitVec.and_allOnes]

/-- Clearing the bits of a mask that is all ones on a field leaves the field zero. -/
theorem field_and_not_of_ones {m : Word} {lo n : Nat} (hm : field m lo n = 2 ^ n - 1) (w : Word) :
    field (w &&& ~~~m) lo n = 0 := by
  refine Nat.eq_of_testBit_eq fun j => ?_
  by_cases hj : j < n
  · have hbit : m.getLsbD (lo + j) = true := by
      rw [bit_of_field hm j hj, Nat.testBit_two_pow_sub_one, decide_eq_true hj]
    simp [testBit_field, hbit]
  · simp [testBit_field, hj]

/-! ## A word is the encoding of what is read from it -/

section EncodeOfWord
variable {w : Word} {f : Nat} (hop : field w 26 6 = 0x12)
include hop

theorem encodeV3_ofWord (hco : field w 25 1 = 1) (hf : field w 0 6 = f) : encodeV3 f (V3.ofWord w) = w := by
  refine BitVec.eq_of_toNat_eq ?_
  simp only [encodeV3, V3.ofWord, regField, elemField, field, BitVec.toNat_ofNat, Fin.val_ofNat] at *
  omega

theorem encodeV1_ofWord (hco : field w 25 1 = 1) (hf : field w 0 6 = f) (hzero : field w 14 2 = 0) :
    encodeV1 f (V1.ofWord w) = w := by
  refine BitVec.eq_of_toNat_eq ?_
  simp only [encodeV1, V1.ofWord, regField, elemField, field, BitVec.toNat_ofNat, Fin.val_ofNat] at *
  omega

theorem encodeVPlane_ofWord (hco : field w 25 1 = 1) (hf : field w 0 6 = f) (hzero : field w 11 10 = 0) :
    encodeVPlane f (VPlane.ofWord w) = w := by
  refine BitVec.eq_of_toNat_eq ?_
  simp only [encodeVPlane, VPlane.ofWord, regField, elemField, field, BitVec.toNat_ofNat, Fin.val_ofNat] at *
  omega

theorem encodeV0_of_fields (hco : field w 25 1 = 1) (hf : field w 0 6 = f) (hzero : field w 6 19 = 0) :
    encodeV0 f = w := by
  refine BitVec.eq_of_toNat_eq ?_
  simp only [encodeV0, field, BitVec.toNat_ofNat] at *
  omega

theorem encodeMV_ofWord (hco : field w 25 1 = 0) (hsel : field w 21 5 = f) (hzero : field w 0 7 = 0) :
    encodeMV f (MV.ofWord w) = w := by
  refine BitVec.eq_of_toNat_eq ?_
  simp only [encodeMV, MV.ofWord, regField, elemField, field, BitVec.toNat_ofNat, Fin.val_ofNat] at *
  omega

theorem encodeMC_ofWord (hco : field w 25 1 = 0) (hsel : field w 21 5 = f) (hlow : field w 0 11 = 0)
    (hhigh : field w 13 3 = 0) : encodeMC f (MC.ofWord w) = w := by
  refine BitVec.eq_of_toNat_eq ?_
  simp only [encodeMC, MC.ofWord, regField, field, BitVec.toNat_ofNat, Fin.val_ofNat] at *
  omega

end EncodeOfWord

/-- Seven bits read as a signed number are the number's low seven bits (R75). -/
theorem offsetField_emod (w : Word) : (offsetField w % 128).toNat = field w 0 7 := by
  have hlt := field_lt w 0 7
  unfold offsetField
  split <;> omega

/-- And the signed number fits the offset operand. -/
theorem LS.wf_ofWord (w : Word) : (LS.ofWord w).wf = true := by
  have hlt := field_lt w 0 7
  refine decide_eq_true (?_ : -64 ≤ offsetField w ∧ offsetField w ≤ 63)
  unfold offsetField
  split <;> omega

theorem encodeLS_ofWord {w : Word} {opword sub : Nat} (hw : opword = 0xC8000000 ∨ opword = 0xE8000000)
    (hop : field w 26 6 = opword / 2 ^ 26) (hsub : field w 11 5 = sub) : encodeLS opword sub (LS.ofWord w) = w := by
  refine BitVec.eq_of_toNat_eq ?_
  have hoffset : ((LS.ofWord w).offset % 128).toNat = field w 0 7 := offsetField_emod w
  rw [encodeLS, hoffset]
  simp only [LS.ofWord, regField, elemField, field, BitVec.toNat_ofNat, Fin.val_ofNat] at *
  omega

/-! ## The operand shapes -/

/-- The fields that choose a row of format V (R76). -/
def isFormatV (f : Nat) (w : Word) : Prop := field w 26 6 = 0x12 ∧ field w 25 1 = 1 ∧ field w 0 6 = f

/-- The fields that choose a row of format LS (R77). -/
def isFormatLS (opword sub : Nat) (w : Word) : Prop := field w 26 6 = opword / 2 ^ 26 ∧ field w 11 5 = sub

/-- The fields that choose a row of format M (R78). -/
def isFormatM (sel : Nat) (w : Word) : Prop := field w 26 6 = 0x12 ∧ field w 25 1 = 0 ∧ field w 21 5 = sel

/-- Operands that are encoded into a row's fields and read back, by a reading and a choice of row that ignore the bits of a
mask: a word, those bits cleared, is an encoding exactly when it is of the row and the operands are those it reads as. -/
theorem and_not_eq_encode_iff {α : Type} {row : Word → Prop} {read : Word → α} {enc : α → Word} {m w : Word} {o : α}
    (hrow : row (w &&& ~~~m) ↔ row w) (hread : read (w &&& ~~~m) = read w) (henc : row (enc o) ∧ read (enc o) = o)
    (hback : row (w &&& ~~~m) → enc (read (w &&& ~~~m)) = w &&& ~~~m) :
    w &&& ~~~m = enc o ↔ row w ∧ read w = o := by
  rw [← hrow, ← hread]
  constructor
  · intro h
    rwa [h]
  · rintro ⟨hw, rfl⟩
    exact (hback hw).symm

section Shapes
variable {w m : Word} {f : Nat}

theorem isFormatV_and (hop : field m 26 6 = 2 ^ 6 - 1) (hco : field m 25 1 = 2 ^ 1 - 1)
    (hfunct : field m 0 6 = 2 ^ 6 - 1) : isFormatV f (w &&& m) ↔ isFormatV f w := by
  rw [isFormatV, isFormatV, field_and_of_ones hop, field_and_of_ones hco, field_and_of_ones hfunct]

theorem isFormatM_and (hop : field m 26 6 = 2 ^ 6 - 1) (hco : field m 25 1 = 2 ^ 1 - 1)
    (hsel : field m 21 5 = 2 ^ 5 - 1) : isFormatM f (w &&& m) ↔ isFormatM f w := by
  rw [isFormatM, isFormatM, field_and_of_ones hop, field_and_of_ones hco, field_and_of_ones hsel]

theorem and_not_eq_encodeV3_iff (hf : f < 64) {o : V3} :
    w &&& ~~~0x00000000#32 = encodeV3 f o ↔ isFormatV f w ∧ V3.ofWord w = o := by
  refine and_not_eq_encode_iff ?row ?read
    ⟨⟨op_encodeV3 hf o, co_encodeV3 hf o, funct_encodeV3 hf o⟩, ofWord_encodeV3 hf o⟩
    fun ⟨hop, hco, hfunct⟩ => encodeV3_ofWord hop hco hfunct
  all_goals rw [and_not_zero]

theorem and_not_eq_encodeLS_iff {opword sub : Nat} (hw : opword = 0xC8000000 ∨ opword = 0xE8000000) (hs : sub < 32)
    {o : LS} :
    o.wf = true ∧ w &&& ~~~0x00000000#32 = encodeLS opword sub o ↔ isFormatLS opword sub w ∧ LS.ofWord w = o := by
  rw [and_not_zero]
  constructor
  · rintro ⟨hwf, rfl⟩
    exact ⟨⟨op_encodeLS hw hs o, sub_encodeLS hw hs o⟩, ofWord_encodeLS hw hs o hwf⟩
  · rintro ⟨⟨hop, hsub⟩, rfl⟩
    exact ⟨LS.wf_ofWord w, (encodeLS_ofWord hw hop hsub).symm⟩

theorem and_not_eq_encodeV1_iff (hf : f < 64) {o : V1} :
    w &&& ~~~0x0000C000#32 = encodeV1 f o ↔ isFormatV f w ∧ V1.ofWord w = o := by
  refine and_not_eq_encode_iff (isFormatV_and (by decide) (by decide) (by decide)) ?read
    ⟨⟨op_encodeV1 hf o, co_encodeV1 hf o, funct_encodeV1 hf o⟩, ofWord_encodeV1 hf o⟩
    fun ⟨hop, hco, hfunct⟩ => encodeV1_ofWord hop hco hfunct (field_and_not_of_ones (by decide) w)
  simp only [V1.ofWord, regField, elemField]
  repeat rw [field_and_of_ones (by decide)]

theorem and_not_eq_encodeVPlane_iff (hf : f < 64) {o : VPlane} :
    w &&& ~~~0x001FF800#32 = encodeVPlane f o ↔ isFormatV f w ∧ VPlane.ofWord w = o := by
  refine and_not_eq_encode_iff (isFormatV_and (by decide) (by decide) (by decide)) ?read
    ⟨⟨op_encodeVPlane hf o, co_encodeVPlane hf o, funct_encodeVPlane hf o⟩, ofWord_encodeVPlane hf o⟩
    fun ⟨hop, hco, hfunct⟩ => encodeVPlane_ofWord hop hco hfunct (field_and_not_of_ones (by decide) w)
  simp only [VPlane.ofWord, regField, elemField]
  repeat rw [field_and_of_ones (by decide)]

theorem and_not_eq_encodeV0_iff (hf : f < 64) : w &&& ~~~0x01FFFFC0#32 = encodeV0 f ↔ isFormatV f w := by
  have hrow : isFormatV f (encodeV0 f) := by
    simp only [isFormatV, encodeV0, field_ofNat (show 0x4A000000 + f < 2 ^ 32 by omega)]
    omega
  rw [and_not_eq_encode_iff (read := fun _ => ()) (enc := fun _ => encodeV0 f) (o := ())
    (isFormatV_and (by decide) (by decide) (by decide)) rfl ⟨hrow, rfl⟩
    fun ⟨hop, hco, hfunct⟩ => encodeV0_of_fields hop hco hfunct (field_and_not_of_ones (by decide) w)]
  exact and_iff_left rfl

theorem and_not_eq_encodeMV_iff (hf : f < 16) {o : MV} :
    w &&& ~~~0x0000007F#32 = encodeMV f o ↔ isFormatM f w ∧ MV.ofWord w = o := by
  refine and_not_eq_encode_iff (isFormatM_and (by decide) (by decide) (by decide)) ?read
    ⟨⟨op_encodeMV hf o, co_encodeMV hf o, sel_encodeMV hf o⟩, ofWord_encodeMV hf o⟩
    fun ⟨hop, hco, hsel⟩ => encodeMV_ofWord hop hco hsel (field_and_not_of_ones (by decide) w)
  simp only [MV.ofWord, regField, elemField]
  repeat rw [field_and_of_ones (by decide)]

theorem and_not_eq_encodeMC_iff (hf : f < 16) {o : MC} :
    w &&& ~~~0x0000E7FF#32 = encodeMC f o ↔ isFormatM f w ∧ MC.ofWord w = o := by
  refine and_not_eq_encode_iff (isFormatM_and (by decide) (by decide) (by decide)) ?read
    ⟨⟨op_encodeMC hf o, co_encodeMC hf o, sel_encodeMC hf o⟩, ofWord_encodeMC hf o⟩
    fun ⟨hop, hco, hsel⟩ => encodeMC_ofWord hop hco hsel (field_and_not_of_ones (by decide) w)
      (field_and_not_of_ones (by decide) w)
  simp only [MC.ofWord, regField]
  repeat rw [field_and_of_ones (by decide)]

end Shapes

/-! ## The decoder -/

/-- Bit 25 is one or zero. -/
theorem co_eq_zero {w : Word} (h : field w 25 1 ≠ 1) : field w 25 1 = 0 := by
  have hlt := field_lt w 25 1
  omega

/-- A word that decodes is, its ignored bits cleared, the encoding of what it decodes to. -/
theorem encode_of_decode {w : Word} {i : Instr} (h : decode w = .ok i) :
    i.wf = true ∧ w &&& ~~~(ignoredBits i) = encode i := by
  unfold decode at h
  -- the cases bear the numbers of the decoders' arms
  split at h
  case h_1 hop =>
    split_ifs at h with hco
    · unfold decodeV at h
      split at h <;> cases h <;> rename_i hfunct
      case h_18 => exact ⟨rfl, (and_not_eq_encodeVPlane_iff (by decide)).mpr ⟨⟨hop, hco, hfunct⟩, rfl⟩⟩
      case h_33 | h_34 | h_35 | h_36 | h_37 | h_38 | h_39 =>
        exact ⟨rfl, (and_not_eq_encodeV1_iff (by decide)).mpr ⟨⟨hop, hco, hfunct⟩, rfl⟩⟩
      case h_40 | h_41 => exact ⟨rfl, (and_not_eq_encodeV0_iff (by decide)).mpr ⟨hop, hco, hfunct⟩⟩
      all_goals exact ⟨rfl, (and_not_eq_encodeV3_iff (by decide)).mpr ⟨⟨hop, hco, hfunct⟩, rfl⟩⟩
    · unfold decodeM at h
      split at h <;> cases h <;> rename_i hsel
      case h_1 | h_3 =>
        exact ⟨rfl, (and_not_eq_encodeMV_iff (by decide)).mpr ⟨⟨hop, co_eq_zero hco, hsel⟩, rfl⟩⟩
      case h_2 | h_4 =>
        exact ⟨rfl, (and_not_eq_encodeMC_iff (by decide)).mpr ⟨⟨hop, co_eq_zero hco, hsel⟩, rfl⟩⟩
  case h_2 hop =>
    unfold decodeLoad at h
    split at h <;> cases h <;> rename_i hsub
    all_goals exact (and_not_eq_encodeLS_iff (.inl rfl) (by decide)).mpr ⟨⟨hop, hsub⟩, rfl⟩
  case h_3 hop =>
    unfold decodeStore at h
    split at h <;> cases h <;> rename_i hsub
    all_goals exact (and_not_eq_encodeLS_iff (.inr rfl) (by decide)).mpr ⟨⟨hop, hsub⟩, rfl⟩
  case h_4 => cases h

/-- A word that, its ignored bits cleared, encodes a well-formed instruction decodes to it. -/
theorem decode_of_encode {w : Word} {i : Instr} (hwf : i.wf = true) (h : w &&& ~~~(ignoredBits i) = encode i) :
    decode w = .ok i := by
  cases i
  case vsar =>
    obtain ⟨⟨hop, hco, hfunct⟩, rfl⟩ := (and_not_eq_encodeVPlane_iff (by decide)).mp h
    simp [decode, decodeV, hop, hco, hfunct]
  case vrcp | vrcpl | vrcph | vmov | vrsq | vrsql | vrsqh =>
    obtain ⟨⟨hop, hco, hfunct⟩, rfl⟩ := (and_not_eq_encodeV1_iff (by decide)).mp h
    simp [decode, decodeV, hop, hco, hfunct]
  case vnop | vnull =>
    obtain ⟨hop, hco, hfunct⟩ := (and_not_eq_encodeV0_iff (by decide)).mp h
    simp [decode, decodeV, hop, hco, hfunct]
  case mfc2 | mtc2 =>
    obtain ⟨⟨hop, hco, hsel⟩, rfl⟩ := (and_not_eq_encodeMV_iff (by decide)).mp h
    simp [decode, decodeM, hop, hco, hsel]
  case cfc2 | ctc2 =>
    obtain ⟨⟨hop, hco, hsel⟩, rfl⟩ := (and_not_eq_encodeMC_iff (by decide)).mp h
    simp [decode, decodeM, hop, hco, hsel]
  case lbv | lsv | llv | ldv | lqv | lrv | lpv | luv =>
    obtain ⟨⟨hop, hsub⟩, rfl⟩ := (and_not_eq_encodeLS_iff (.inl rfl) (by decide)).mp ⟨hwf, h⟩
    simp [decode, decodeLoad, hop, hsub]
  case sbv | ssv | slv | sdv | sqv | srv | spv | suv =>
    obtain ⟨⟨hop, hsub⟩, rfl⟩ := (and_not_eq_encodeLS_iff (.inr rfl) (by decide)).mp ⟨hwf, h⟩
    simp [decode, decodeStore, hop, hsub]
  all_goals
    obtain ⟨⟨hop, hco, hfunct⟩, rfl⟩ := (and_not_eq_encodeV3_iff (by decide)).mp h
    simp [decode, decodeV, hop, hco, hfunct]

/-- An encoding has no ignored bit set: its own fields and operands make it the encoding it would be without them. -/
theorem encode_and_not_ignoredBits (i : Instr) : encode i &&& ~~~(ignoredBits i) = encode i := by
  cases i
  case vsar o =>
    exact (and_not_eq_encodeVPlane_iff (by decide)).mpr ⟨⟨op_encodeVPlane (by decide) o, co_encodeVPlane (by decide) o,
      funct_encodeVPlane (by decide) o⟩, ofWord_encodeVPlane (by decide) o⟩
  case vrcp o | vrcpl o | vrcph o | vmov o | vrsq o | vrsql o | vrsqh o =>
    exact (and_not_eq_encodeV1_iff (by decide)).mpr ⟨⟨op_encodeV1 (by decide) o, co_encodeV1 (by decide) o,
      funct_encodeV1 (by decide) o⟩, ofWord_encodeV1 (by decide) o⟩
  case vnop | vnull => decide
  case mfc2 o | mtc2 o =>
    exact (and_not_eq_encodeMV_iff (by decide)).mpr ⟨⟨op_encodeMV (by decide) o, co_encodeMV (by decide) o,
      sel_encodeMV (by decide) o⟩, ofWord_encodeMV (by decide) o⟩
  case cfc2 o | ctc2 o =>
    exact (and_not_eq_encodeMC_iff (by decide)).mpr ⟨⟨op_encodeMC (by decide) o, co_encodeMC (by decide) o,
      sel_encodeMC (by decide) o⟩, ofWord_encodeMC (by decide) o⟩
  all_goals exact and_not_zero _

/-- Settles O9: both directions are the operand shapes' equivalences, along the decoder and along the encoder. -/
theorem decodeAcceptsExactlyTheEncodings : Obligations.DecodeAcceptsExactlyTheEncodings :=
  fun _ _ => ⟨encode_of_decode, fun ⟨hwf, h⟩ => decode_of_encode hwf h⟩

/-- Settles O8: an encoding has no ignored bit to clear. -/
theorem decodeInvertsEncode : Obligations.DecodeInvertsEncode :=
  fun i hwf => decode_of_encode hwf (encode_and_not_ignoredBits i)

end Sys2Proof

/-!
The bus, the outcomes of an instruction, and the step (20_memory.md R51 to R53; 60_exceptions.md R240, R241; 70_reset_and_hazards.md
R260). A load or store is one bus transaction of at most sixteen addresses; every other instruction completes. The step's cases are
those of `step_cases`, and what an instruction does outside the block those of `exec_next_cases`.
-/

namespace Sys2Proof.Machine

open Sys2Proof.Claims

/-! ## The bus -/

theorem memReadV_accepted {s : State} {addrs : List Word} (h : busAnswer s .read addrs = none) :
    s.memReadV addrs = .ok (addrs.map s.readByte) := by
  rw [busAnswer] at h
  simp only [State.memReadV, h]

theorem memReadV_refused {s : State} {addrs : List Word} {f : Word} (h : busAnswer s .read addrs = some f) :
    s.memReadV addrs = .error f := by
  rw [busAnswer] at h
  simp only [State.memReadV, h]

theorem memWriteV_accepted {s : State} {addrs : List Word} (bytes : List Byte) (h : busAnswer s .write addrs = none) :
    s.memWriteV addrs bytes = .ok { s with mem := storedMem s addrs bytes } := by
  rw [busAnswer] at h
  simp only [State.memWriteV, h, storedMem]

theorem memWriteV_refused {s : State} {addrs : List Word} (bytes : List Byte) {f : Word}
    (h : busAnswer s .write addrs = some f) : s.memWriteV addrs bytes = .error f := by
  rw [busAnswer] at h
  simp only [State.memWriteV, h]

/-- Settles O52: a transaction is what the bus's answer says, and the bytes of an accepted write are those of `storedMem`. -/
theorem busTransactionsAreAllOrNothing : Obligations.BusTransactionsAreAllOrNothing := by
  refine ⟨fun _ _ _ _ h => mem_of_busRefusal h, fun s addrs => ⟨memReadV_accepted, fun _ => memReadV_refused⟩,
    fun s addrs bytes hs _ hnodup => ⟨fun h => ?accepted, fun _ => memWriteV_refused bytes⟩, fun s => ?empty⟩
  case accepted =>
    exact ⟨_, memWriteV_accepted bytes h, fun k ha hb => readByte_stored hs hnodup ha hb,
      fun _ hb => readByte_stored_other hs bytes hb, rfl⟩
  case empty => exact ⟨memReadV_accepted (busRefusal_nil ..), memWriteV_accepted [] (busRefusal_nil ..)⟩

/-- The lowest address of a list of words: the one word of the list that is below no other. -/
theorem lowestAddr_eq_some_iff {l : List Word} {f : Word} :
    lowestAddr l = some f ↔ f ∈ l ∧ ∀ a ∈ l, f.toNat ≤ a.toNat := by
  obtain ⟨hnone, hsome⟩ := lowestAddr_spec l
  refine ⟨hsome f, fun ⟨hmem, hlow⟩ => ?_⟩
  obtain ⟨a, ha⟩ := Option.ne_none_iff_exists'.mp fun h => List.ne_nil_of_mem hmem (hnone.mp h)
  obtain ⟨hmem', hlow'⟩ := hsome a ha
  rw [ha, BitVec.eq_of_toNat_eq (le_antisymm (hlow' f hmem) (hlow a hmem'))]

/-- Settles O53: with no answers the bus reports the lowest of the refused addresses. -/
theorem refusedRangesReportTheLowestAddress : Obligations.RefusedRangesReportTheLowestAddress := by
  intro s acc addrs hnone refused
  have hranges : refusedRanges s.cfg.bus acc = if acc = .read then s.cfg.bus.readRefused else s.cfg.bus.writeRefused := by
    cases acc <;> rfl
  have hmem : ∀ a, a ∈ refusedAddrs (refusedRanges s.cfg.bus acc) addrs ↔ a ∈ addrs ∧ refused a := fun a => by
    rw [mem_refusedAddrs, hranges]
  rw [busAnswer, busRefusal_of_noAnswers hnone]
  refine ⟨?accepts, fun f => ?reports⟩
  case accepts =>
    rw [(lowestAddr_spec _).1, List.eq_nil_iff_forall_not_mem]
    simp only [hmem, not_and]
  case reports => simp only [lowestAddr_eq_some_iff, hmem, and_imp, and_assoc]

/-! ## The outcomes of an instruction -/

theorem length_packedAddrs_le (a : Word) (e : Fin 16) : (packedAddrs a e).length ≤ 16 := by
  rw [length_packedAddrs]
  decide

theorem length_consecutive_le {n : Nat} (hn : n ≤ 16) (a : Word) : (consecutive a n).length ≤ 16 :=
  (length_consecutive a n).trans_le hn

/-- Every load is one bus read of at most sixteen addresses, every store one bus write (R123 to R138). -/
theorem exec_of_isLS {i : Instr} (hi : isLS i = true) (s : State) :
    (isStore i = false ∧ ∃ vt addrs f, addrs.length ≤ 16 ∧ exec i s = loadReg vt addrs f s)
      ∨ (isStore i = true ∧ ∃ addrs bytes, addrs.length ≤ 16 ∧ exec i s = storeReg addrs bytes s) := by
  cases i
  case lbv | lsv | llv | ldv =>
    exact .inl ⟨rfl, _, _, _, length_consecutive_le ((min_le_left _ _).trans (by decide)) _, rfl⟩
  case lqv => exact .inl ⟨rfl, _, _, _, length_consecutive_le ((min_le_right _ _).trans (Nat.sub_le _ _)) _, rfl⟩
  case lrv => exact .inl ⟨rfl, _, _, _, length_consecutive_le (by unfold restCount; omega) _, rfl⟩
  case lpv | luv => exact .inl ⟨rfl, _, _, _, length_packedAddrs_le .., rfl⟩
  case sbv | ssv | slv | sdv | spv | suv => exact .inr ⟨rfl, _, _, length_consecutive_le (by decide) _, rfl⟩
  case sqv => exact .inr ⟨rfl, _, _, length_consecutive_le (Nat.sub_le _ _) _, rfl⟩
  case srv => exact .inr ⟨rfl, _, _, length_consecutive_le (Nat.mod_lt _ (by decide)).le _, rfl⟩
  all_goals exact absurd hi Bool.false_ne_true

/-- Settles O12: no other instruction can stop, and a load or store stops only where the bus refuses its transaction. -/
theorem outcomeOfEveryInstruction : Obligations.OutcomeOfEveryInstruction := by
  refine fun i s => ⟨fun hi => ?completes, fun hi => ?transaction⟩
  case completes =>
    cases i
    case lbv | lsv | llv | ldv | lqv | lrv | lpv | luv | sbv | ssv | slv | sdv | sqv | srv | spv | suv => cases hi
    all_goals exact ⟨_, rfl⟩
  case transaction =>
    obtain ⟨hstore, vt, addrs, f, hlen, hexec⟩ | ⟨hstore, addrs, bytes, hlen, hexec⟩ := exec_of_isLS hi s
    · cases hbus : busRefusal s.cfg.bus .read addrs with
      | none => exact .inl ⟨_, hexec.trans (loadReg_accepted hbus)⟩
      | some a =>
        refine .inr ⟨a, hexec.trans (loadReg_refused hbus), addrs, hlen, mem_of_busRefusal hbus, ?_⟩
        rwa [hstore]
    · cases hbus : busRefusal s.cfg.bus .write addrs with
      | none => exact .inl ⟨_, hexec.trans (storeReg_accepted hbus)⟩
      | some a =>
        refine .inr ⟨a, hexec.trans (storeReg_refused hbus), addrs, hlen, mem_of_busRefusal hbus, ?_⟩
        rwa [hstore]

/-- The recommended bus takes an address mod 4096 (R53). -/
theorem busIndex_recommended (a : Word) : busIndex Bus.recommended a = a.toNat % 4096 := busIndex_of_noPlaces rfl a

/-- Settles O13: a fault would need a transaction that the recommended bus refuses, and it refuses none. -/
theorem nothingFaultsOnTheRecommendedBus : Obligations.NothingFaultsOnTheRecommendedBus := by
  intro s hbus
  refine ⟨fun i => ?completes, fun a b h => ?bytes⟩
  case completes =>
    obtain ⟨hother, hls⟩ := outcomeOfEveryInstruction i s
    cases hi : isLS i with
    | false => exact hother hi
    | true =>
      obtain ht | ⟨a, -, addrs, -, -, hrefused⟩ := hls hi
      · exact ht
      · rw [busAnswer, hbus, busRefusal_recommended] at hrefused
        cases hrefused
  case bytes =>
    refine readByte_of_sameByte ?_
    rw [sameByte, hbus, busIndex_recommended, busIndex_recommended, h]

/-! ## The step and the invariant -/

/-- A completed instruction keeps the invariant: a store because of what it stores, any other because it changes neither memory
nor the bus. -/
theorem inv_of_exec {i : Instr} {s t : State} (hs : s.Inv) (h : exec i s = .next t) : t.Inv := by
  obtain ⟨hstore, -⟩ | ⟨-, -, v, rfl⟩ | ⟨-, hkept⟩ := exec_next_cases h
  · cases i
    case sbv | ssv | slv | sdv | sqv | srv | spv | suv => exact inv_of_storeReg hs h
    all_goals cases hstore
  · exact ⟨hs.canonical, hs.within, hs.bus⟩
  · exact hkept.inv hs

/-- Taking a command changes neither memory nor the bus. -/
theorem inv_takeCommand {s : State} (hs : s.Inv) (c : Command) (rest : List Command) : (s.takeCommand c rest).Inv :=
  ⟨hs.canonical, hs.within, hs.bus⟩

/-- Settles O11: a step is idle, or an instruction on the state with its command taken. -/
theorem stepKeepsTheInvariant : Obligations.StepKeepsTheInvariant := by
  intro s t hs h
  obtain ⟨-, rfl⟩ | ⟨c, rest, i, -, -, hexec⟩ := step_cases h
  · exact hs
  · exact inv_of_exec (inv_takeCommand hs c rest) hexec

/-- Settles O4: the reset memory lists nothing and the recommended bus has 2^12 bytes. -/
theorem resetMeetsTheInvariant : Obligations.ResetMeetsTheInvariant :=
  inv_of_pow 12 (by decide) (by decide) rfl rfl rfl nofun

/-- Settles O2: the cases of the step. -/
theorem stepRunsThePresentedCommand : Obligations.StepRunsThePresentedCommand := by
  refine ⟨fun s c rest i hc hd => step_command hc hd, fun s w i hd => step_withFetchWord ?_,
    fun s c rest why hc hd => step_undecodable hc hd, fun s hc => step_idle hc⟩
  rwa [Nat.mod_eq_of_lt w.isLt, BitVec.ofNat_toNat, BitVec.setWidth_eq]

/-- Settles O3: the reset state as it is written, and the recommended bus. -/
theorem resetStateIsIdleAndZero : Obligations.ResetStateIsIdleAndZero := by
  refine ⟨fun r i => ?register, fun i => ?accumulator, rfl, rfl, rfl, rfl, rfl, rfl, fun _ => rfl, rfl, rfl, rfl, rfl, rfl, rfl,
    rfl, rfl, rfl, rfl, rfl, fun a b => ?sameByte, fun acc addrs => busRefusal_recommended acc addrs, step_idle rfl⟩
  case register => simp [State.reset]
  case accumulator => simp [State.reset]
  case sameByte => exact iff_of_eq (congrArg₂ (· = ·) (busIndex_recommended a) (busIndex_recommended b))

end Sys2Proof.Machine

/-!
What each instruction writes and reads (10_state.md R23; 70_reset_and_hazards.md R265 to R267). The lists of the spec are gone
through list by list: off a list the field is kept, or the flag register not read, by the shape of the instruction's next state.
-/

namespace Sys2Proof.Machine

open Sys2Proof.Claims

/-! ## The shapes of write, once more -/

section Writes
variable {s t : State}

/-- A completed load leaves the accumulator, the flags and the latches. -/
theorem loadReg_kept {vt : Fin 32} {addrs : List Word} {f : List Byte → VReg} (h : loadReg vt addrs f s = .next t) :
    accKept s t ∧ flagsKept s t ∧ latchesKept s t :=
  (loadReg_next h).2 ▸ ⟨fun _ => rfl, ⟨rfl, rfl, rfl⟩, rfl, rfl, rfl⟩

/-- So does a completed store. -/
theorem storeReg_kept {addrs : List Word} {bytes : List Byte} (h : storeReg addrs bytes s = .next t) :
    accKept s t ∧ flagsKept s t ∧ latchesKept s t :=
  (storeReg_next h).2 ▸ ⟨fun _ => rfl, ⟨rfl, rfl, rfl⟩, rfl, rfl, rfl⟩

theorem logical_kept (s : State) (o : V3) (f : Lane → Lane → Lane) :
    flagsKept s (logical o f s) ∧ latchesKept s (logical o f s) := by
  rw [logical_eq]
  exact ⟨⟨rfl, rfl, rfl⟩, rfl, rfl, rfl⟩

theorem upperKept_of_accKept (h : accKept s t) : upperKept s t := fun i => by
  rw [h i]
  exact ⟨rfl, rfl⟩

end Writes

/-! ## The flag register of a number (R232) -/

theorem flagOf_eq_vco_iff : ∀ {c : Fin 4}, flagOf c = .vco ↔ c.val = 0 := by decide

theorem flagOf_eq_vcc_iff : ∀ {c : Fin 4}, flagOf c = .vcc ↔ c.val = 1 := by decide

theorem flagOf_eq_vce_iff : ∀ {c : Fin 4}, flagOf c = .vce ↔ 2 ≤ c.val := by decide

/-! ## Writers of the flag registers (R265) -/

/-- Settles O15: the shared operations by the flag registers they write, CTC2 by its operand. -/
theorem onlyTheListedInstructionsWriteAFlag : Obligations.OnlyTheListedInstructionsWriteAFlag := by
  intro i s t h
  cases i
  case lbv | lsv | llv | ldv | lqv | lrv | lpv | luv =>
    obtain ⟨-, ⟨hvco, hvcc, hvce⟩, -⟩ := loadReg_kept h
    exact ⟨fun _ => hvco, nofun, fun _ => hvcc, fun _ => hvce, nofun⟩
  case sbv | ssv | slv | sdv | sqv | srv | spv | suv =>
    obtain ⟨-, ⟨hvco, hvcc, hvce⟩, -⟩ := storeReg_kept h
    exact ⟨fun _ => hvco, nofun, fun _ => hvcc, fun _ => hvce, nofun⟩
  all_goals cases h
  case vand o | vnand o | vor o | vnor o | vxor o | vnxor o =>
    obtain ⟨⟨hvco, hvcc, hvce⟩, -⟩ := logical_kept s o _
    exact ⟨fun _ => hvco, nofun, fun _ => hvcc, fun _ => hvce, nofun⟩
  case vadd | vsub => exact ⟨nofun, fun _ => rfl, fun _ => rfl, fun _ => rfl, nofun⟩
  case vaddc | vsubc => exact ⟨nofun, nofun, fun _ => rfl, fun _ => rfl, nofun⟩
  case vlt | vge | veq | vne => exact ⟨nofun, fun _ => rfl, nofun, fun _ => rfl, nofun⟩
  case vch => exact ⟨nofun, nofun, nofun, nofun, nofun⟩
  case vcl =>
    exact ⟨nofun, fun _ => clip_vco_eq_zero _ _ (fun _ => clipLow_cy ..) fun _ => clipLow_ne .., nofun, nofun,
      fun _ => clip_vce_eq_zero _ _ fun _ => clipLow_ce ..⟩
  case vcr =>
    exact ⟨nofun, fun _ => clip_vco_eq_zero _ _ (fun _ => clipReverse_cy ..) fun _ => clipReverse_ne .., nofun, nofun,
      fun _ => clip_vce_eq_zero _ _ fun _ => clipReverse_ce ..⟩
  case ctc2 o =>
    rw [writeFlag_eq]
    exact ⟨fun h => if_neg (mt flagOf_eq_vco_iff.mp (of_decide_eq_false h)), nofun,
      fun h => if_neg (mt flagOf_eq_vcc_iff.mp (of_decide_eq_false h)),
      fun h => if_neg (mt flagOf_eq_vce_iff.mp (of_decide_eq_false h)), nofun⟩
  all_goals exact ⟨fun _ => rfl, nofun, fun _ => rfl, fun _ => rfl, nofun⟩

/-! ## Writers of the accumulator (R267) -/

theorem logical_accKept {s : State} (o : V3) (f : Lane → Lane → Lane) (h : s.cfg.logicalAccLo = false) :
    accKept s (logical o f s) := fun i => by rw [logical_acc_of_false o f h]

/-- Under either value of `LOGICAL_ACC_LO` the upper planes are kept (R160). -/
theorem logical_upperKept (s : State) (o : V3) (f : Lane → Lane → Lane) : upperKept s (logical o f s) := by
  obtain ⟨-, hoff, hon, -⟩ := logical_logicalTo (s := s) o f
  cases hcfg : s.cfg.logicalAccLo with
  | false => exact upperKept_of_accKept (hoff hcfg)
  | true => exact (hon hcfg).1

/-- Settles O17: a logical instruction writes the low plane at most, the other listed writers of `ACC_LO` that plane alone. -/
theorem onlyTheListedInstructionsWriteTheAccumulator : Obligations.OnlyTheListedInstructionsWriteTheAccumulator := by
  intro i s t h
  cases i
  case lbv | lsv | llv | ldv | lqv | lrv | lpv | luv =>
    obtain ⟨hacc, -⟩ := loadReg_kept h
    exact ⟨fun _ => upperKept_of_accKept hacc, fun _ _ _ => hacc⟩
  case sbv | ssv | slv | sdv | sqv | srv | spv | suv =>
    obtain ⟨hacc, -⟩ := storeReg_kept h
    exact ⟨fun _ => upperKept_of_accKept hacc, fun _ _ _ => hacc⟩
  all_goals cases h
  case vmulf | vmulu | vmudl | vmudm | vmudn | vmudh | vmacf | vmacu | vmadl | vmadm | vmadn | vmadh =>
    exact ⟨nofun, nofun⟩
  case vand | vnand | vor | vnor | vxor | vnxor =>
    exact ⟨fun _ => logical_upperKept s _ _, fun _ _ hcfg => logical_accKept _ _ (hcfg.resolve_left nofun)⟩
  case vadd | vsub | vaddc | vsubc | vabs | vlt | veq | vne | vge | vcl | vch | vcr | vmrg | vmov | vrcp | vrcpl | vrcph
      | vrsq | vrsql | vrsqh => exact ⟨fun _ => upperKept_setAccLo s _, fun _ => nofun⟩
  case ctc2 =>
    rw [writeFlag_eq]
    exact ⟨fun _ _ => ⟨rfl, rfl⟩, fun _ _ _ _ => rfl⟩
  all_goals exact ⟨fun _ _ => ⟨rfl, rfl⟩, fun _ _ _ _ => rfl⟩

/-! ## Writers of the latches (R266) -/

/-- Settles O18: the two shared operations of the reciprocal instructions write the latches, and no other instruction does. -/
theorem onlyTheReciprocalInstructionsChangeTheLatches : Obligations.OnlyTheReciprocalInstructionsChangeTheLatches := by
  intro i s t h
  cases i
  case lbv | lsv | llv | ldv | lqv | lrv | lpv | luv =>
    obtain ⟨-, -, hin, hout, hdp⟩ := loadReg_kept h
    exact ⟨fun _ => hin, fun _ => hout, hdp⟩
  case sbv | ssv | slv | sdv | sqv | srv | spv | suv =>
    obtain ⟨-, -, hin, hout, hdp⟩ := storeReg_kept h
    exact ⟨fun _ => hin, fun _ => hout, hdp⟩
  all_goals cases h
  case vand o | vnand o | vor o | vnor o | vxor o | vnxor o =>
    obtain ⟨-, hin, hout, hdp⟩ := logical_kept s o _
    exact ⟨fun _ => hin, fun _ => hout, hdp⟩
  case vrcp | vrsq | vrcpl | vrsql => exact ⟨fun _ => rfl, nofun, rfl⟩
  case vrcph | vrsqh => exact ⟨nofun, fun _ => rfl, rfl⟩
  case ctc2 =>
    rw [writeFlag_eq]
    exact ⟨fun _ => rfl, fun _ => rfl, rfl⟩
  all_goals exact ⟨fun _ => rfl, fun _ => rfl, rfl⟩

/-! ## Vector registers (R23) -/

/-- The vector registers after a completed instruction: those before, or those with its destination written, where the
single-lane instructions write one lane. -/
theorem exec_next_vr {i : Instr} {s t : State} (h : exec i s = .next t) :
    (destination i = none ∧ t.vr = s.vr)
      ∨ ∃ r v, destination i = some r ∧ t.vr = s.vr.set r v
        ∧ ∀ d, destinationLane i = some d → ∃ x, v = s.vr[r].set d x := by
  cases i
  case lbv | lsv | llv | ldv | lqv | lrv | lpv | luv =>
    exact .inr ⟨_, _, rfl, congrArg State.vr (loadReg_next h).2, nofun⟩
  case sbv | ssv | slv | sdv | sqv | srv | spv | suv => exact .inl ⟨rfl, by rw [(storeReg_next h).2]⟩
  all_goals cases h
  case vand | vnand | vor | vnor | vxor | vnxor =>
    rw [logical_eq]
    exact .inr ⟨_, _, rfl, rfl, nofun⟩
  case vrcp | vrcpl | vrcph | vmov | vrsq | vrsql | vrsqh =>
    exact .inr ⟨_, _, rfl, rfl, fun d hd => Option.some.inj hd ▸ ⟨_, rfl⟩⟩
  case vnop | vnull | mfc2 | cfc2 => exact .inl ⟨rfl, rfl⟩
  case ctc2 =>
    rw [writeFlag_eq]
    exact .inl ⟨rfl, rfl⟩
  all_goals exact .inr ⟨_, _, rfl, rfl, nofun⟩

/-- Settles O19: the destination register is the one written, and of it the one lane. -/
theorem onlyTheDestinationRegisterChanges : Obligations.OnlyTheDestinationRegisterChanges := by
  intro i s t h
  obtain ⟨hnone, hvr⟩ | ⟨r, v, hr, hvr, hlane⟩ := exec_next_vr h
  · exact ⟨fun q _ => by rw [hvr], fun r d j hr => by simp [hnone] at hr⟩
  · refine ⟨fun q hq => ?other, fun r' d j hr' hd hj => ?lane⟩
    case other =>
      have hne : q ≠ r := fun h => hq (h ▸ hr)
      rw [hvr]
      exact s.setVR_other v hne
    case lane =>
      obtain rfl : r = r' := Option.some.inj (hr.symm.trans hr')
      obtain ⟨x, rfl⟩ := hlane d hd
      rw [hvr]
      exact s.setLane_otherLane r x hj

/-! ## Readers of the flag registers (R265) -/

section Readers
variable {s : State} {g : State → State} {addrs : List Word}

/-- A change of the state that a load's transaction does not see, and that its register write keeps, passes through the load. -/
theorem loadReg_onNext {vt : Fin 32} {f : List Byte → VReg} (hread : (g s).memReadV addrs = s.memReadV addrs)
    (hset : ∀ v, (g s).setVR vt v = g (s.setVR vt v)) :
    loadReg vt addrs f (g s) = onNext g (loadReg vt addrs f s) := by
  unfold loadReg
  rw [hread]
  cases s.memReadV addrs with
  | error a => rfl
  | ok bytes => exact congrArg Host.Outcome.next (hset _)

/-- The same of a store. -/
theorem storeReg_onNext {bytes : List Byte} (hbus : (g s).cfg.bus = s.cfg.bus)
    (hset : ({ g s with mem := storedMem (g s) addrs bytes } : State) = g { s with mem := storedMem s addrs bytes }) :
    storeReg addrs bytes (g s) = onNext g (storeReg addrs bytes s) := by
  cases h : busRefusal s.cfg.bus .write addrs with
  | none => rw [storeReg_accepted h, storeReg_accepted (hbus ▸ h), hset]; rfl
  | some a => rw [storeReg_refused h, storeReg_refused (hbus ▸ h)]; rfl

end Readers

/-- The readers of each flag register (R265). -/
def readsFlag : FlagReg → Instr → Bool
  | .vco => readsVco
  | .vcc => readsVcc
  | .vce => readsVce

/-- The writers of each flag register (R265). -/
def writesFlag : FlagReg → Instr → Bool
  | .vco => writesVco
  | .vcc => writesVcc
  | .vce => writesVce

theorem writesFlag_vco : writesFlag .vco = writesVco := rfl

theorem writesFlag_vcc : writesFlag .vcc = writesVcc := rfl

theorem writesFlag_vce : writesFlag .vce = writesVce := rfl

theorem flagOf_ne_of_cfc2 {r : FlagReg} {o : MC} (h : readsFlag r (.cfc2 o) = false) : flagOf o.c ≠ r := by
  cases r
  case vco => exact mt flagOf_eq_vco_iff.mp (of_decide_eq_false h)
  case vcc => exact mt flagOf_eq_vcc_iff.mp (of_decide_eq_false h)
  case vce => exact mt flagOf_eq_vce_iff.mp (of_decide_eq_false h)

theorem writesFlag_ctc2 (r : FlagReg) (o : MC) : writesFlag r (.ctc2 o) = decide (flagOf o.c = r) := by
  cases r
  case vco => exact decide_eq_decide.mpr flagOf_eq_vco_iff.symm
  case vcc => exact decide_eq_decide.mpr flagOf_eq_vcc_iff.symm
  case vce => exact decide_eq_decide.mpr flagOf_eq_vce_iff.symm

section WriteFlag
variable (s : State) (v w : Word) (r q : FlagReg)

theorem logical_writeFlag (o : V3) (f : Lane → Lane → Lane) :
    logical o f (writeFlag s v r) = writeFlag (logical o f s) v r := by
  rw [logical_eq, logical_eq]
  cases r <;> rfl

variable {r q}

/-- CFC2 of another flag register. -/
theorem flagValue_writeFlag_of_ne (h : q ≠ r) : flagValue (writeFlag s v r) q = flagValue s q := by
  cases q <;> simp [flagValue, writeFlag_eq, h.symm]

end WriteFlag

/-- An instruction off a flag register's readers' list does the same whatever the register holds, and keeps it or writes it. -/
theorem exec_writeFlag {r : FlagReg} {i : Instr} (hi : readsFlag r i = false) (s : State) (v : Word) :
    exec i (writeFlag s v r) = onNext (fun t => if writesFlag r i then t else writeFlag t v r) (exec i s) := by
  cases i
  case lbv | lsv | llv | ldv | lqv | lrv | lpv | luv =>
    cases r <;> exact loadReg_onNext (g := (writeFlag · v _)) rfl fun _ => rfl
  case sbv | ssv | slv | sdv | sqv | srv | spv | suv =>
    cases r <;> exact storeReg_onNext (g := (writeFlag · v _)) rfl rfl
  case vand | vnand | vor | vnor | vxor | vnxor =>
    cases r <;> exact congrArg Host.Outcome.next (logical_writeFlag s v _ _ _)
  case cfc2 o =>
    have hvalue := flagValue_writeFlag_of_ne s v (flagOf_ne_of_cfc2 hi)
    cases r <;> exact congrArg (fun x => Host.Outcome.next ((writeFlag s v _).setScalarOut x)) hvalue
  case ctc2 o =>
    rw [writesFlag_ctc2]
    simp only [exec, execCtc2, onNext]
    cases r <;> cases flagOf o.c <;> rfl
  case vadd | vsub | vlt | veq | vne | vge =>
    cases r
    case vco => cases hi
    all_goals rfl
  case vmrg =>
    cases r
    case vcc => cases hi
    all_goals rfl
  case vcl => cases r <;> cases hi
  all_goals cases r <;> rfl

/-- A value zero-extended to the scalar operand's width is in its low bits. -/
theorem extractLsb'_zeroExtend {n : Nat} (hn : n ≤ 32) (v : BitVec n) : (v.zeroExtend 32).extractLsb' 0 n = v := by
  have hlt : v.toNat < 2 ^ 32 := v.isLt.trans_le (Nat.pow_le_pow_right (by decide) hn)
  refine BitVec.eq_of_toNat_eq ?_
  rw [BitVec.extractLsb'_toNat, BitVec.toNat_setWidth, Nat.mod_eq_of_lt hlt, Nat.shiftRight_zero, Nat.mod_eq_of_lt v.isLt]

/-! Replacing a flag register's value is writing the register. -/

theorem writeFlag_vco (s : State) (v : BitVec 16) : writeFlag s (v.zeroExtend 32) .vco = { s with vco := v } :=
  congrArg s.setVco (extractLsb'_zeroExtend (by decide) v)

theorem writeFlag_vcc (s : State) (v : BitVec 16) : writeFlag s (v.zeroExtend 32) .vcc = { s with vcc := v } :=
  congrArg s.setVcc (extractLsb'_zeroExtend (by decide) v)

theorem writeFlag_vce (s : State) (v : BitVec 8) : writeFlag s (v.zeroExtend 32) .vce = { s with vce := v } :=
  congrArg s.setVce (extractLsb'_zeroExtend (by decide) v)

/-- Settles O16: replacing a flag register is writing it, and off the register's list a write passes through the instruction. -/
theorem onlyTheListedInstructionsReadAFlag : Obligations.OnlyTheListedInstructionsReadAFlag := by
  refine fun i s => ⟨fun hi v => ?vco, fun hi v => ?vcc, fun hi v => ?vce⟩
  case vco => simpa only [writeFlag_vco, writesFlag_vco] using exec_writeFlag (r := .vco) hi s (v.zeroExtend 32)
  case vcc => simpa only [writeFlag_vcc, writesFlag_vcc] using exec_writeFlag (r := .vcc) hi s (v.zeroExtend 32)
  case vce => simpa only [writeFlag_vce, writesFlag_vce] using exec_writeFlag (r := .vce) hi s (v.zeroExtend 32)

end Sys2Proof.Machine

/-!
Register and flag access from the scalar side (48_register_access.md R230 to R235). The words are of format M with ignored bits, so
they decode as their encodings do; a scalar value is taken whole from, or read back in, the low bits of a flag register's word.
-/

namespace Sys2Proof

open Sys2Proof.Claims

/-! ## Format M words (R74) -/

section WordM
variable {sel : Nat} (hs : sel < 16) (rt rd : Fin 32) (e : Fin 16) (low : BitVec 7)
include hs

theorem wordM_eq_ofNat : wordM sel rt rd e low = BitVec.ofNat 32 (0x48000000 + sel * 2 ^ 21 + rt.val * 2 ^ 16
    + rd.val * 2 ^ 11 + e.val * 2 ^ 7 + low.toNat) := by
  have hlow : low.zeroExtend 32 = BitVec.ofNat 32 low.toNat := BitVec.eq_of_toNat_eq (by simp)
  have hlt := low.isLt
  rw [wordM, hlow, ← encodeMV_eq_or hs ⟨rt, rd, e⟩, encodeMV]
  exact word_or_eq_add 7 (by omega) (by omega) (by omega) (by omega)

theorem isFormatM_wordM : isFormatM sel (wordM sel rt rd e low) := by
  have hlt := low.isLt
  rw [isFormatM, wordM_eq_ofNat hs, field_ofNat (by omega), field_ofNat (by omega), field_ofNat (by omega)]
  omega

theorem ofWord_MV_wordM : MV.ofWord (wordM sel rt rd e low) = ⟨rt, rd, e⟩ := by
  have hlt := low.isLt
  simp only [MV.ofWord, regField, elemField, wordM_eq_ofNat hs, MV.mk.injEq, Fin.ext_iff, Fin.val_ofNat]
  rw [field_ofNat (by omega), field_ofNat (by omega), field_ofNat (by omega)]
  omega

theorem ofWord_MC_wordM : MC.ofWord (wordM sel rt rd e low) = ⟨rt, ⟨rd.val % 4, Nat.mod_lt _ (by decide)⟩⟩ := by
  have hlt := low.isLt
  simp only [MC.ofWord, regField, wordM_eq_ofNat hs, MC.mk.injEq, Fin.ext_iff, Fin.val_ofNat]
  rw [field_ofNat (by omega), field_ofNat (by omega)]
  omega

theorem wordM_and_not_eq_encodeMV : wordM sel rt rd e low &&& ~~~0x0000007F#32 = encodeMV sel ⟨rt, rd, e⟩ :=
  (and_not_eq_encodeMV_iff hs).mpr ⟨isFormatM_wordM hs rt rd e low, ofWord_MV_wordM hs rt rd e low⟩

theorem wordM_and_not_eq_encodeMC : wordM sel rt rd e low &&& ~~~0x0000E7FF#32
    = encodeMC sel ⟨rt, ⟨rd.val % 4, Nat.mod_lt _ (by decide)⟩⟩ :=
  (and_not_eq_encodeMC_iff hs).mpr ⟨isFormatM_wordM hs rt rd e low, ofWord_MC_wordM hs rt rd e low⟩

end WordM

end Sys2Proof

namespace Sys2Proof.Machine

open Sys2Proof.Claims

/-! ## The scalar value of a flag register (R233, R235) -/

theorem extractLsb'_signExtend {n : Nat} (hn : n ≤ 32) (v : BitVec n) : (v.signExtend 32).extractLsb' 0 n = v := by
  refine BitVec.eq_of_getLsbD_eq fun i hi => ?_
  have hlt : i < 32 := hi.trans_le hn
  rw [BitVec.getLsbD_extractLsb', Nat.zero_add, BitVec.getLsbD_signExtend]
  simp [hi, hlt]

theorem extractLsb'_flagValue_vco (s : State) : (flagValue s .vco).extractLsb' 0 16 = s.vco :=
  extractLsb'_signExtend (by decide) s.vco

theorem extractLsb'_flagValue_vcc (s : State) : (flagValue s .vcc).extractLsb' 0 16 = s.vcc :=
  extractLsb'_signExtend (by decide) s.vcc

/-- Under either value of `VCE_READ_SEXT`. -/
theorem extractLsb'_flagValue_vce (s : State) : (flagValue s .vce).extractLsb' 0 8 = s.vce := by
  simp only [flagValue]
  split
  · exact extractLsb'_signExtend (by decide) s.vce
  · exact extractLsb'_zeroExtend (by decide) s.vce

/-! ## The obligations of register and flag access -/

/-- Settles O48: the byte after `e` is that of `e + 1`, which wraps in its type. -/
theorem mfc2Result : Obligations.Mfc2Result := by
  refine ⟨fun rt rd e low => decode_of_encode rfl (wordM_and_not_eq_encodeMV (by decide) rt rd e low), fun s o =>
    ⟨_, rfl, ?value, rfl, fun _ => rfl, ⟨rfl, rfl, rfl⟩, ⟨rfl, rfl, rfl⟩, fun _ => rfl, rfl, rfl, rfl⟩⟩
  have hnext : Fin.ofNat 16 (o.e.val + 1) = o.e + 1 := Fin.ext (by simp [Fin.val_add])
  rw [vrb_eq_regByte, ← hnext]
  rfl

/-- Settles O49: the flag number chooses the register, whose value is then that of the rule. -/
theorem cfc2Result : Obligations.Cfc2Result := by
  refine ⟨fun rt rd e low => decode_of_encode rfl (wordM_and_not_eq_encodeMC (by decide) rt rd e low), fun s o =>
    ⟨_, rfl, fun hc => ?vco, fun hc => ?vcc, fun hc => ?vce, rfl, fun _ => rfl, ⟨rfl, rfl, rfl⟩, ⟨rfl, rfl, rfl⟩, fun _ => rfl,
      rfl, rfl, rfl⟩⟩
  all_goals rw [State.setScalarOut_sdataOut]
  case vco => rw [flagOf_eq_vco_iff.mpr (congrArg Fin.val hc), flagValue]
  case vcc => rw [flagOf_eq_vcc_iff.mpr (congrArg Fin.val hc), flagValue]
  case vce => rw [flagOf_eq_vce_iff.mpr (by omega), flagValue]

/-- Settles O50: the bytes are merged at `e`, and the second falls off the register where `e` is 15. -/
theorem mtc2Result : Obligations.Mtc2Result := by
  refine ⟨fun rt rd e low => decode_of_encode rfl (wordM_and_not_eq_encodeMV (by decide) rt rd e low), fun s o =>
    ⟨_, rfl, fun k => ?bytes, fun _ hq => s.setVR_other _ hq, fun _ => rfl, ⟨rfl, rfl, rfl⟩, ⟨rfl, rfl, rfl⟩, fun _ => rfl,
      ⟨rfl, rfl, rfl⟩, rfl⟩⟩
  have hreg : (s.setVR o.rd (mergeBytes s.vr[o.rd] o.e.val [s.sdataIn.extractLsb' 8 8, s.sdataIn.extractLsb' 0 8])).vr[o.rd]
      = mergeBytes s.vr[o.rd] o.e.val [s.sdataIn.extractLsb' 8 8, s.sdataIn.extractLsb' 0 8] := by simp
  rw [hreg, vrb_eq_regByte, regByte_mergeBytes]
  simp only [List.length_cons, List.length_nil]
  split_ifs with hin hfirst hsecond hfirst hsecond
  · simp [hfirst]
  · simp [hsecond]
  · omega
  · omega
  · omega
  · rfl

/-- Settles O51: the selected register is written whole, and its scalar value holds it in its low bits. -/
theorem ctc2Result : Obligations.Ctc2Result := by
  refine ⟨fun rt rd e low => decode_of_encode rfl (wordM_and_not_eq_encodeMC (by decide) rt rd e low), fun s o => ?_⟩
  have hvco : flagOf o.c = .vco ↔ o.c = 0 := flagOf_eq_vco_iff.trans (by omega)
  have hvcc : flagOf o.c = .vcc ↔ o.c = 1 := flagOf_eq_vcc_iff.trans (by omega)
  have hvce : flagOf o.c = .vce ↔ o.c = 2 ∨ o.c = 3 := flagOf_eq_vce_iff.trans (by omega)
  refine ⟨_, rfl, ?vco, ?vcc, ?vce, by rw [writeFlag_eq], ?acc, ?latches, ?memory, ?port, fun rt => ⟨_, _, rfl, rfl, ?readBack⟩⟩
  case readBack =>
    split_ifs with h
    · obtain h | h := h
      · rw [hvco.mpr h]
        exact extractLsb'_flagValue_vco _
      · rw [hvcc.mpr h]
        exact extractLsb'_flagValue_vcc _
    · rw [hvce.mpr (by omega)]
      exact extractLsb'_flagValue_vce _
  all_goals rw [writeFlag_eq]
  case vco => exact if_congr hvco rfl rfl
  case vcc => exact if_congr hvcc rfl rfl
  case vce => exact if_congr hvce rfl rfl
  case acc => exact fun _ => rfl
  case latches => exact ⟨rfl, rfl, rfl⟩
  case memory => exact fun _ => rfl
  case port => exact ⟨⟨rfl, rfl, rfl⟩, rfl⟩

end Sys2Proof.Machine

/-!
Double-width pairs (42_add_sub.md; 45_compare_select.md; 70_reset_and_hazards.md R265). A pair of lanes is a 32-bit number, the upper
lane's signed value times 2^16 plus the lower lane's unsigned one; the flag bits that the first instruction leaves say what the
second needs to know of the other half. What the single instructions do is taken from their own statements.
-/

namespace Sys2Proof.Machine

open Sys2Proof.Claims

/-! ## Two lanes as one word -/

section Halves
variable (a b : Lane)

theorem toInt_append_lanes : (a ++ b : Word).toInt = 2 ^ 16 * a.toInt + b.toNat := by
  rw [BitVec.toInt_append, if_neg (by decide)]

theorem toNat_append_lanes : (a ++ b : Word).toNat = 2 ^ 16 * a.toNat + b.toNat := by
  rw [BitVec.toNat_append, ← Nat.shiftLeft_add_eq_or_of_lt b.isLt, Nat.shiftLeft_eq, Nat.mul_comm]

/-- The sign of the word is that of its upper lane. -/
theorem msb_append_lanes : (a ++ b : Word).msb = a.msb := BitVec.msb_append.trans (if_neg (by decide))

theorem low_append_lanes : (a ++ b : Word).extractLsb' 0 16 = b := BitVec.extractLsb'_append_eq_right

/-- The low half of the negation is the negation of the low half. -/
theorem low_neg_append_lanes : (-(a ++ b : Word)).extractLsb' 0 16 = -b := by
  refine BitVec.eq_of_toNat_eq ?_
  rw [BitVec.extractLsb'_toNat, BitVec.toNat_neg, BitVec.toNat_neg, toNat_append_lanes, Nat.shiftRight_zero]
  have hb := b.isLt
  omega

end Halves

theorem add_eq_ofInt (x y : Word) : x + y = BitVec.ofInt 32 (x.toInt + y.toInt) := by
  rw [BitVec.ofInt_add, BitVec.ofInt_toInt, BitVec.ofInt_toInt]

theorem sub_eq_ofInt (x y : Word) : x - y = BitVec.ofInt 32 (x.toInt - y.toInt) := by
  rw [Int.sub_eq_add_neg, BitVec.ofInt_add, BitVec.ofInt_neg, BitVec.ofInt_toInt, BitVec.ofInt_toInt, BitVec.sub_eq_add_neg]

/-- An instruction that writes no source of the next leaves the next its sources. -/
theorem sources_kept {s t : State} {d : Fin 32} {o : V3} (hvr : vrOnly s t d) (hport : portKept s t) (hs : d ≠ o.vs)
    (ht : d ≠ o.vt) (i : LaneIx) : S t o i = S s o i ∧ T t o i = T s o i := by
  obtain ⟨⟨-, -, hcfg⟩, -⟩ := hport
  exact ⟨by rw [S, S, hvr o.vs hs.symm], by simp only [T, hvr o.vt ht.symm, hcfg]⟩

/-! ## Addition and subtraction -/

/-- The exact value of a pair is its high halves' value times 2^16 plus its low halves', which carries over what exceeds the low
lane: the two wrapped lanes are the wrapped value, and a value in range needs no saturation. -/
theorem doubleWidth_lane {acc r l : Lane} {x y z exact : Int} (hl : (l.toNat : Int) = z % 2 ^ 16)
    (hacc : (acc.toNat : Int) = y % 2 ^ 16) (hr : saturated y r) (hy : y = x + z / 2 ^ 16) (hexact : exact = 2 ^ 16 * x + z) :
    (acc ++ l : Word) = BitVec.ofInt 32 exact ∧ (-2 ^ 31 ≤ exact → exact < 2 ^ 31 → r = acc) := by
  refine ⟨BitVec.eq_of_toNat_eq ?word, fun hlow hhigh => BitVec.toInt_inj.mp ?lane⟩
  case word =>
    have hword := toNat_ofInt_eq_emod 32 exact
    have happend := toNat_append_lanes acc l
    omega
  case lane =>
    have hsigned := BitVec.toInt_eq_toNat_cond acc
    unfold saturated at hr
    omega

/-- The carry of an unsigned sum, and the borrow of a difference, are the sum's and the difference's quotient by 2^16. -/
theorem carry_eq_ediv {c : Bool} {a b : Lane} (h : c = true ↔ a.toNat + b.toNat ≥ 2 ^ 16) :
    (c.toNat : Int) = ((a.toNat : Int) + b.toNat) / 2 ^ 16 := by
  have ha := a.isLt
  have hb := b.isLt
  cases c <;> simp only [Bool.toNat_true, Bool.toNat_false, true_iff, Bool.false_eq_true, false_iff] at h ⊢ <;> omega

theorem borrow_eq_ediv {c : Bool} {a b : Lane} (h : c = true ↔ (a.toNat : Int) - b.toNat < 0) :
    -(c.toNat : Int) = ((a.toNat : Int) - b.toNat) / 2 ^ 16 := by
  have ha := a.isLt
  have hb := b.isLt
  cases c <;> simp only [Bool.toNat_true, Bool.toNat_false, true_iff, Bool.false_eq_true, false_iff] at h ⊢ <;> omega

/-- Settles O25: the carry or borrow of the low halves enters the exact value of the high halves. -/
theorem doubleWidthAddAndSubtract : Obligations.DoubleWidthAddAndSubtract := by
  intro s l h hs ht
  obtain ⟨-, -, hlow⟩ := vaddcVsubcResult
  obtain ⟨-, -, hhigh⟩ := vaddVsubResult
  obtain ⟨⟨t, hadd, hlanes, -, -, -, hvr, -, -, hport⟩, t', hsub, hlanes', -, -, -, hvr', -, -, hport'⟩ := hlow s l
  obtain ⟨⟨u, hadd', hsum, -⟩, -⟩ := hhigh t h
  obtain ⟨-, u', hsub', hdiff, -⟩ := hhigh t' h
  refine ⟨⟨t, u, hadd, hadd', fun i => ?add⟩, t', u', hsub, hsub', fun i => ?sub⟩
  case add =>
    obtain ⟨-, hreg, hcarry, -⟩ := hlanes i
    obtain ⟨hacc, hsat⟩ := hsum i
    obtain ⟨hS, hT⟩ := sources_kept hvr hport hs ht i
    have hcarried : (S t h i).toInt + (T t h i).toInt + ((carry t i).toNat : Int)
        = ((S s h i).toInt + (T s h i).toInt) + ((S s l i).toNat + (T s l i).toNat) / 2 ^ 16 := by
      rw [hS, hT, carry_eq_ediv hcarry]
    have hexact : (S s h i ++ S s l i : Word).toInt + (T s h i ++ T s l i : Word).toInt
        = 2 ^ 16 * ((S s h i).toInt + (T s h i).toInt) + ((S s l i).toNat + (T s l i).toNat) := by
      rw [toInt_append_lanes, toInt_append_lanes]
      omega
    rw [add_eq_ofInt]
    exact doubleWidth_lane hreg hacc hsat hcarried hexact
  case sub =>
    obtain ⟨-, hreg, hborrow, -⟩ := hlanes' i
    obtain ⟨hacc, hsat⟩ := hdiff i
    obtain ⟨hS, hT⟩ := sources_kept hvr' hport' hs ht i
    have hborrowed : (S t' h i).toInt - (T t' h i).toInt - ((carry t' i).toNat : Int)
        = ((S s h i).toInt - (T s h i).toInt) + ((S s l i).toNat - (T s l i).toNat) / 2 ^ 16 := by
      rw [hS, hT, ← borrow_eq_ediv hborrow, ← Int.sub_eq_add_neg]
    have hexact : (S s h i ++ S s l i : Word).toInt - (T s h i ++ T s l i : Word).toInt
        = 2 ^ 16 * ((S s h i).toInt - (T s h i).toInt) + ((S s l i).toNat - (T s l i).toNat) := by
      rw [toInt_append_lanes, toInt_append_lanes]
      omega
    rw [sub_eq_ofInt]
    exact doubleWidth_lane hreg hacc hsat hborrowed hexact

/-! ## The comparisons -/

section Compare
variable {a b c d : Lane} {borrow differ : Bool} (hborrow : borrow = true ↔ (c.toNat : Int) - d.toNat < 0)
  (hdiffer : differ = true ↔ (c.toNat : Int) - d.toNat ≠ 0)
include hdiffer

/-- Two pairs are equal when their high halves are and their low halves leave no not-equal bit. -/
theorem eqMask_iff_append_eq : (a = b ∧ differ = false) ↔ (a ++ c : Word) = b ++ d := by
  rw [← Bool.not_eq_true, hdiffer, ← BitVec.toInt_inj, ← BitVec.toInt_inj, toInt_append_lanes, toInt_append_lanes]
  have hc := c.isLt
  have hd := d.isLt
  omega

include hborrow

/-- One pair is less when its high half is, or the high halves are equal and the low halves leave a borrow. -/
theorem ltMask_iff_append_lt :
    (a.toInt < b.toInt ∨ (a = b ∧ differ = true ∧ borrow = true)) ↔ (a ++ c : Word).toInt < (b ++ d : Word).toInt := by
  rw [hborrow, hdiffer, ← BitVec.toInt_inj, toInt_append_lanes, toInt_append_lanes]
  have hc := c.isLt
  have hd := d.isLt
  omega

end Compare

/-- A select compare leaves in `VCC.le` the truth of what its mask says. -/
theorem le_eq_decide_of_selectCompares {s t : State} {o : V3} {M : LaneIx → Prop} (h : selectCompares s t o M) {i : LaneIx}
    {p : Prop} [Decidable p] (hp : M i ↔ p) : le t i = decide p := by
  obtain ⟨-, hlanes, -⟩ := h
  obtain ⟨-, -, hle, -⟩ := hlanes i
  rw [Bool.eq_iff_iff, hle, decide_eq_true_iff, hp]

/-- Settles O36: the flag bits that VSUBC leaves of the low halves decide between equal high halves. -/
theorem doubleWidthCompare : Obligations.DoubleWidthCompare := by
  intro s l h hs ht
  obtain ⟨-, -, hlow⟩ := vaddcVsubcResult
  obtain ⟨-, -, hltge⟩ := vltVgeResult
  obtain ⟨-, -, heqne⟩ := veqVneResult
  obtain ⟨-, t, hexec, hlanes, -, -, -, hvr, -, -, hport⟩ := hlow s l
  obtain ⟨lt, ge, hlt, hge, hltMask, hgeMask, -⟩ := hltge t h
  obtain ⟨eq, ne, heq, hne, heqMask, hneMask, -⟩ := heqne t h
  refine ⟨t, hexec, ⟨lt, hlt, fun i => le_eq_decide_of_selectCompares hltMask ?lt⟩,
    ⟨ge, hge, fun i => le_eq_decide_of_selectCompares hgeMask ?ge⟩,
    ⟨eq, heq, fun i => le_eq_decide_of_selectCompares heqMask ?eq⟩,
    ne, hne, fun i => le_eq_decide_of_selectCompares hneMask ?ne⟩
  all_goals
    obtain ⟨-, -, hborrow, hdiffer⟩ := hlanes i
    obtain ⟨hS, hT⟩ := sources_kept hvr hport hs ht i
    rw [hS, hT]
  case lt => exact ltMask_iff_append_lt hborrow hdiffer
  case ge => rw [geMask_iff_not_ltMask, ltMask_iff_append_lt hborrow hdiffer, not_lt, ge_iff_le]
  case eq => exact eqMask_iff_append_eq hdiffer
  case ne => rw [neMask_iff_not_eqMask, eqMask_iff_append_eq hdiffer]

/-! ## The clip -/

section Clip
variable {a b c d : Lane} {le le' ge ge' ne ce : Bool}

/-- The sum of two pairs of differing signs, from the high halves' sum `x` and the low halves': VCH decides it unless `x` is 0 or
-1, where VCL's carry conditions do (R195, R196). -/
theorem clip_le_iff (hle : le = true ↔ a.toInt + b.toInt ≤ 0) (hce : ce = true ↔ a.toInt + b.toInt = -1)
    (hne : ne = true ↔ a.toInt + b.toInt ≠ 0 ∧ a.toInt + b.toInt ≠ -1) (hkept : ne = true → le' = le)
    (hextended : ne = false → ce = true → (le' = true ↔ (c.toNat + d.toNat) % 2 ^ 16 = 0 ∨ c.toNat + d.toNat < 2 ^ 16))
    (hplain : ne = false → ce = false → (le' = true ↔ (c.toNat + d.toNat) % 2 ^ 16 = 0 ∧ c.toNat + d.toNat < 2 ^ 16)) :
    le' = true ↔ (a ++ c : Word).toInt + (b ++ d : Word).toInt ≤ 0 := by
  rw [toInt_append_lanes, toInt_append_lanes]
  have hc := c.isLt
  have hd := d.isLt
  cases ne with
  | true =>
    have hx := hne.mp rfl
    rw [hkept rfl, hle]
    omega
  | false =>
    have hx := mt hne.mpr Bool.false_ne_true
    cases ce with
    | true =>
      have hx' := hce.mp rfl
      rw [hextended rfl rfl]
      omega
    | false =>
      have hx' := mt hce.mpr Bool.false_ne_true
      rw [hplain rfl rfl]
      omega

/-- The order of two pairs of one sign: VCH decides it unless the high halves are equal, where the low halves' order does. -/
theorem clip_ge_iff (hge : ge = true ↔ a.toInt - b.toInt ≥ 0) (hne : ne = true ↔ a.toInt - b.toInt ≠ 0)
    (hkept : ne = true → ge' = ge) (hcompared : ne = false → (ge' = true ↔ c.toNat ≥ d.toNat)) :
    ge' = true ↔ (a ++ c : Word).toInt ≥ (b ++ d : Word).toInt := by
  rw [toInt_append_lanes, toInt_append_lanes]
  have hc := c.isLt
  have hd := d.isLt
  cases ne with
  | true =>
    have hx := hne.mp rfl
    rw [hkept rfl, hge]
    omega
  | false =>
    have hx := mt hne.mpr Bool.false_ne_true
    rw [hcompared rfl]
    omega

end Clip

/-- Settles O37: by the signs of a lane's pair, which VCH leaves in the carry bit; VCL completes the comparison that VCH left open
and selects by it. -/
theorem doubleWidthClip : Obligations.DoubleWidthClip := by
  intro s h l hs ht
  obtain ⟨-, hvch⟩ := vchResult
  obtain ⟨-, hvcl⟩ := vclResult
  obtain ⟨t, hexec, ⟨-, -, hvr, -, -, hport⟩, hdiffer, hagree, -⟩ := hvch s h
  obtain ⟨u, hexec', -, -, -, hcarry, hnoCarry⟩ := hvcl t l
  refine ⟨t, u, hexec, hexec', fun i => ?_⟩
  obtain ⟨hS, hT⟩ := sources_kept hvr hport hs ht i
  intro a b
  have hmsba : a.msb = (S s h i).msb := msb_append_lanes ..
  have hmsbb : b.msb = (T s h i).msb := msb_append_lanes ..
  rw [hmsba, hmsbb]
  refine ⟨fun hmsb => ?differ, fun hmsb => ?agree⟩
  case differ =>
    obtain ⟨hle, -, hcy, hce, hne, -⟩ := hdiffer i hmsb
    obtain ⟨-, hkept, hextended, hplain, hr⟩ := hcarry i hcy
    rw [hS, hT] at hextended hplain hr
    have hiff := clip_le_iff hle hce hne hkept hextended hplain
    refine ⟨hiff, ?_⟩
    rw [hr, apply_ite (BitVec.extractLsb' 0 16), low_neg_append_lanes, low_append_lanes]
    exact if_congr hiff rfl rfl
  case agree =>
    obtain ⟨-, hge, hcy, -, hne, -⟩ := hagree i hmsb
    obtain ⟨-, hkept, hcompared, hr⟩ := hnoCarry i hcy
    rw [hS, hT] at hcompared hr
    have hiff := clip_ge_iff hge hne hkept hcompared
    refine ⟨hiff, ?_⟩
    rw [hr, apply_ite (BitVec.extractLsb' 0 16), low_append_lanes, low_append_lanes]
    exact if_congr hiff rfl rfl

end Sys2Proof.Machine
